-- ==== Sys2Proof/Word.lean ====
section
/-!
DEFINITION. The word types of the LC66P2316 (00_scope R6, R10, R11): every value the spec treats as bits is a
bit vector of the width the spec gives it, bit 0 the least significant.
-/

namespace Sys2Proof

/-- One data-memory word, one port, one half of a register pair: 4 bits (00_scope R6). -/
abbrev Nibble := BitVec 4

/-- One byte of program memory, or a register pair (00_scope R12, R13). -/
abbrev Byte := BitVec 8

/-- A program-memory address, the width of PC (10_state R24). -/
abbrev RomAddr := BitVec 14

/-- A data-memory address `{bank, a8}` (20_memory R63). -/
abbrev RamAddr := BitVec 9

/-- A memory as the list of its entries, key first; the canonical form is `Machine.Memory.wf`.
Program memory is a `Memory 8` (a list of `Host.Cell`); data memory is a `Memory 4`, its unit being a 4-bit word
(log 43). -/
abbrev Memory (w : Nat) := List (Nat × BitVec w)

end Sys2Proof
end

