-- ==== Sys2Proof/Machine/Bits.lean ====
section
/-!
DEFINITION. Bit-field helpers: the two halves of a byte, a pair of nibbles, and `setbit` (00_scope R10, R12, R19).
-/

namespace Sys2Proof.Machine

/-- `v[7:4]`. -/
def hiNib (v : Byte) : Nibble := v.extractLsb' 4 4

/-- `v[3:0]`. -/
def loNib (v : Byte) : Nibble := v.extractLsb' 0 4

/-- `{hi, lo}`, the first-named half most significant (00_scope R12). -/
def pairOf (hi lo : Nibble) : Byte := hi ++ lo

/-- `setbit(v, t, x)` of 00_scope R19: `v` with bit `t` replaced by `x`. -/
def setBit (v : Nibble) (t : BitVec 2) (x : Bool) : Nibble :=
  if x then v ||| (1#4 <<< t.toNat) else v &&& ~~~(1#4 <<< t.toNat)

/-- Bit `t` of a word, `t2` read as an unsigned bit index (00_scope R10). -/
def bitAt (v : Nibble) (t : BitVec 2) : Bool := v.getLsbD t.toNat

/-- `v` with bit `n` replaced by `x`, for the sixteen user flags (45_flag R235, R236). -/
def setFlagBit (v : BitVec 16) (n : Nibble) (x : Bool) : BitVec 16 :=
  if x then v ||| (1#16 <<< n.toNat) else v &&& ~~~(1#16 <<< n.toNat)

end Sys2Proof.Machine
end

