-- ==== Sys2Proof/Syntax.lean ====
section
/-!
DEFINITION. The instructions of the LC66P2316: one constructor for each of the 132 rows of spec/opcode_table.json
(30_encoding R103), in the table's order. A field has the width its encoding gives it (30_encoding R104), so every
value of a field is an encodable one; which values belong to another row's name is Sys2Proof/WellFormed.lean.
-/

namespace Sys2Proof

/-- The pointer that LA and XA go through: the code bit t0, 0 for HL and 1 for XY (20_memory R65). -/
inductive Ptr where
  | hl | xy
  deriving DecidableEq, Repr

/-- The instruction set (30_encoding R103). -/
inductive Instr where
  -- Accumulator manipulation (40_accumulator.md)
  /-- CLA (R140): AC <- 0, with the vertical skip. -/
  | cla
  /-- DAA (R141): AC <- AC + 6. -/
  | daa
  /-- DAS (R142): AC <- AC + 10. -/
  | das
  /-- CLC (R143): CF <- 0. -/
  | clc
  /-- STC (R144): CF <- 1. -/
  | stc
  /-- CMA (R145): AC <- ~AC. -/
  | cma
  /-- IA (R146): AC <- AC + 1. -/
  | ia
  /-- DA (R147): AC <- AC - 1. -/
  | da
  /-- RAR (R148): rotate AC right through CF. -/
  | rar
  /-- RAL (R149): rotate AC left through CF. -/
  | ral
  /-- TAE (R150): E <- AC. -/
  | tae
  /-- TEA (R151): AC <- E. -/
  | tea
  /-- XAE (R152): exchange AC and E. -/
  | xae
  -- Memory manipulation (41_memory_manipulation.md)
  /-- IM (R160): M(HL) <- M(HL) + 1. -/
  | im
  /-- DM (R161): M(HL) <- M(HL) - 1. -/
  | dm
  /-- IMDR_i8 (R162): M(i8) <- M(i8) + 1. -/
  | imdr (i8 : Byte)
  /-- DMDR_i8 (R163): M(i8) <- M(i8) - 1. -/
  | dmdr (i8 : Byte)
  /-- SMB_t2 (R164): set bit t2 of M(HL). -/
  | smb (t2 : BitVec 2)
  /-- RMB_t2 (R165): clear bit t2 of M(HL). -/
  | rmb (t2 : BitVec 2)
  -- Arithmetic, logic and comparison (42_arithmetic_logic_compare.md)
  /-- AD (R170): AC <- AC + M(HL). -/
  | ad
  /-- ADDR_i8 (R171): AC <- AC + M(i8). -/
  | addr (i8 : Byte)
  /-- ADC (R172): AC <- AC + M(HL) + CF. -/
  | adc
  /-- ADI_i4 (R173): AC <- AC + i4. -/
  | adi (i4 : Nibble)
  /-- SUBC (R174): AC <- M(HL) - AC - CF. -/
  | subc
  /-- ANDA (R175): AC <- AC and M(HL). -/
  | anda
  /-- ORA (R176): AC <- AC or M(HL). -/
  | ora
  /-- EXL (R177): AC <- AC xor M(HL). -/
  | exl
  /-- ANDM (R178): M(HL) <- AC and M(HL). -/
  | andm
  /-- ORM (R179): M(HL) <- AC or M(HL). -/
  | orm
  /-- CM (R180): compare AC with M(HL). -/
  | cm
  /-- CI_i4 (R181): compare AC with i4. -/
  | ci (i4 : Nibble)
  /-- CLI_i4 (R182): compare DPL with i4. -/
  | cli (i4 : Nibble)
  /-- CMB_t2 (R183): compare bit t2 of AC and M(HL). -/
  | cmb (t2 : BitVec 2)
  -- Load and store (43_load_store.md)
  /-- LAE (R190): AC, E <- M2(HL). -/
  | lae
  /-- LAI_i4 (R191): AC <- i4, with the vertical skip. -/
  | lai (i4 : Nibble)
  /-- LADR_i8 (R192): AC <- M(i8). -/
  | ladr (i8 : Byte)
  /-- S (R193): M(HL) <- AC. -/
  | st
  /-- SAE (R194): M2(HL) <- AC, E. -/
  | sae
  /-- LA_reg (R195): AC <- M(reg). -/
  | la (r : Ptr)
  /-- LA_reg_I (R196): AC <- M(reg), then increment the low half of reg. -/
  | laI (r : Ptr)
  /-- LA_reg_D (R197): AC <- M(reg), then decrement the low half of reg. -/
  | laD (r : Ptr)
  /-- XA_reg (R198): exchange AC and M(reg). -/
  | xa (r : Ptr)
  /-- XA_reg_I (R199): exchange AC and M(reg), then increment the low half of reg. -/
  | xaI (r : Ptr)
  /-- XA_reg_D (R200): exchange AC and M(reg), then decrement the low half of reg. -/
  | xaD (r : Ptr)
  /-- XADR_i8 (R201): exchange AC and M(i8). -/
  | xadr (i8 : Byte)
  /-- LEAI_i8 (R202): E, AC <- i8. -/
  | leai (i8 : Byte)
  /-- RTBL (R203): E, AC <- ROM(page, E, AC). -/
  | rtbl
  /-- RTBLP (R204): ports 4, 5 <- ROM(page, E, AC). -/
  | rtblp
  -- Data pointer manipulation (44_data_pointer.md)
  /-- LDZ_i4 (R210): DPH <- 0, DPL <- i4. -/
  | ldz (i4 : Nibble)
  /-- LHI_i4 (R211): DPH <- i4. -/
  | lhi (i4 : Nibble)
  /-- LLI_i4 (R212): DPL <- i4. -/
  | lli (i4 : Nibble)
  /-- LHLI_i8 (R213): DPH, DPL <- i8. -/
  | lhli (i8 : Byte)
  /-- LXYI_i8 (R214): DPX, DPY <- i8. -/
  | lxyi (i8 : Byte)
  /-- IL (R215): DPL <- DPL + 1. -/
  | il
  /-- DL (R216): DPL <- DPL - 1. -/
  | dl
  /-- IY (R217): DPY <- DPY + 1. -/
  | iy
  /-- DY (R218): DPY <- DPY - 1. -/
  | dy
  /-- TAH (R219): DPH <- AC. -/
  | tah
  /-- THA (R220): AC <- DPH. -/
  | tha
  /-- XAH (R221): exchange AC and DPH. -/
  | xah
  /-- TAL (R222): DPL <- AC. -/
  | tal
  /-- TLA (R223): AC <- DPL. -/
  | tla
  /-- XAL (R224): exchange AC and DPL. -/
  | xal
  /-- TAX (R225): DPX <- AC. -/
  | tax
  /-- TXA (R226): AC <- DPX. -/
  | txa
  /-- XAX (R227): exchange AC and DPX. -/
  | xax
  /-- TAY (R228): DPY <- AC. -/
  | tay
  /-- TYA (R229): AC <- DPY. -/
  | tya
  /-- XAY (R230): exchange AC and DPY. -/
  | xay
  -- Flag manipulation (45_flag.md)
  /-- SFB_n4 (R235): F[n4] <- 1. -/
  | sfb (n4 : Nibble)
  /-- RFB_n4 (R236): F[n4] <- 0. -/
  | rfb (n4 : Nibble)
  -- Jump and subroutine (46_jump_subroutine.md)
  /-- JMP_addr (R240): jump in the current bank. -/
  | jmp (p : BitVec 12)
  /-- JPEA (R241): jump to {page, E, AC}. -/
  | jpea
  /-- CAL_addr (R242): call in 0000H to 07FFH. -/
  | cal (p : BitVec 11)
  /-- CZP_addr (R243): call a zero-page entry. -/
  | czp (p : Nibble)
  /-- BANK (R244): the next instruction runs with B = 1. -/
  | bank
  /-- PUSH_HL (R245): push HL. -/
  | pushHl
  /-- PUSH_XY (R245): push XY. -/
  | pushXy
  /-- PUSH_AE (R245): push {E, AC}. -/
  | pushAe
  /-- POP_HL (R246): pop HL. -/
  | popHl
  /-- POP_XY (R246): pop XY. -/
  | popXy
  /-- POP_AE (R246): pop {E, AC}. -/
  | popAe
  /-- RT (R247): return, CF and ZF kept. -/
  | rt
  /-- RTI (R248): return, CF and ZF restored. -/
  | rti
  -- Branch (47_branch.md)
  /-- BAt2_addr (R256): branch if bit t2 of AC is 1. -/
  | ba (t2 : BitVec 2) (p : Byte)
  /-- BNAt2_addr (R257): branch if bit t2 of AC is 0. -/
  | bna (t2 : BitVec 2) (p : Byte)
  /-- BMt2_addr (R258): branch if bit t2 of M(HL) is 1. -/
  | bm (t2 : BitVec 2) (p : Byte)
  /-- BNMt2_addr (R259): branch if bit t2 of M(HL) is 0. -/
  | bnm (t2 : BitVec 2) (p : Byte)
  /-- BPt2_addr (R260): branch if bit t2 of P(DPL) is 1. -/
  | bp (t2 : BitVec 2) (p : Byte)
  /-- BNPt2_addr (R261): branch if bit t2 of P(DPL) is 0. -/
  | bnp (t2 : BitVec 2) (p : Byte)
  /-- BC_addr (R262): branch if CF = 1. -/
  | bc (p : Byte)
  /-- BNC_addr (R263): branch if CF = 0. -/
  | bnc (p : Byte)
  /-- BZ_addr (R264): branch if ZF = 1. -/
  | bz (p : Byte)
  /-- BNZ_addr (R265): branch if ZF = 0. -/
  | bnz (p : Byte)
  /-- BFn4_addr (R266): branch if F[n4] = 1. -/
  | bf (n4 : Nibble) (p : Byte)
  /-- BNFn4_addr (R267): branch if F[n4] = 0. -/
  | bnf (n4 : Nibble) (p : Byte)
  -- I/O (48_io.md)
  /-- IP0 (R271): AC <- P0. -/
  | ip0
  /-- IP (R272): AC <- P(DPL). -/
  | ip
  /-- IPM (R273): M(HL) <- P(DPL). -/
  | ipm
  /-- IPDR_i4 (R274): AC <- P(i4). -/
  | ipdr (i4 : Nibble)
  /-- IP45 (R275): E <- P4, AC <- P5. -/
  | ip45
  /-- OP (R276): P(DPL) <- AC. -/
  | op
  /-- OPM (R277): P(DPL) <- M(HL). -/
  | opm
  /-- OPDR_i4 (R278): P(i4) <- AC. -/
  | opdr (i4 : Nibble)
  /-- OP45 (R279): P4 <- E, P5 <- AC. -/
  | op45
  /-- SPB_t2 (R280): set bit t2 of P(DPL). -/
  | spb (t2 : BitVec 2)
  /-- RPB_t2 (R281): clear bit t2 of P(DPL). -/
  | rpb (t2 : BitVec 2)
  /-- ANDPDR_i4_p4 (R282): P(p4) <- P(p4) and i4. -/
  | andpdr (i4 : Nibble) (p4 : Nibble)
  /-- ORPDR_i4_p4 (R283): P(p4) <- P(p4) or i4. -/
  | orpdr (i4 : Nibble) (p4 : Nibble)
  -- Timer, interrupt, standby, serial and other control (49_system_control.md)
  /-- WTTM0 (R290): T0_RELOAD <- {M2(HL), AC}. -/
  | wttm0
  /-- WTTM1 (R291): T1_RELOAD_A <- {E, AC}. -/
  | wttm1
  /-- RTIM0 (R292): M2(HL), AC <- T0_COUNT. -/
  | rtim0
  /-- RTIM1 (R293): E, AC <- T1_COUNT. -/
  | rtim1
  /-- START0 (R294): start timer 0. -/
  | start0
  /-- START1 (R295): start timer 1. -/
  | start1
  /-- STOP0 (R296): stop timer 0. -/
  | stop0
  /-- STOP1 (R297): stop timer 1. -/
  | stop1
  /-- MSET (R298): MSE <- 1. -/
  | mset
  /-- MRESET (R299): MSE <- 0. -/
  | mreset
  /-- EIH_i4 (R300): EDIH <- EDIH or i4. -/
  | eih (i4 : Nibble)
  /-- EIL_i4 (R301): EDIL <- EDIL or i4. -/
  | eil (i4 : Nibble)
  /-- DIH_i4 (R302): EDIH <- EDIH and not i4. -/
  | dih (i4 : Nibble)
  /-- DIL_i4 (R303): EDIL <- EDIL and not i4. -/
  | dil (i4 : Nibble)
  /-- WTSP (R304): SP <- {E, AC}. -/
  | wtsp
  /-- RSP (R305): E, AC <- SP. -/
  | rsp
  /-- HALT (R306): enter halt mode. -/
  | halt
  /-- HOLD (R307): enter hold mode when P33/HOLD is low. -/
  | hold
  /-- STARTS (R308): start the serial transfer. -/
  | starts
  /-- WTSIO (R309): SIO <- {E, AC}. -/
  | wtsio
  /-- RSIO (R310): E, AC <- SIO. -/
  | rsio
  /-- NOP (R311): nothing. -/
  | nop
  /-- SB_i2 (R312): PC13, PC12 <- i2. -/
  | sb (i2 : BitVec 2)
  deriving DecidableEq, Repr

end Sys2Proof
end

