-- ==== Sys2Proof/WellFormed.lean ====
section
/-!
DEFINITION. Which terms of `Instr` stand for a word of their own. Field widths are in the types; what is left is that
five codes have two names in the table. Each word is given one constructor (30_encoding R107, R115; log 41), and the
other spelling is not well formed.
-/

namespace Sys2Proof

/-- LAI 0 is the code of CLA, ADI 6 of DAA, ADI 0AH of DAS (30_encoding R115); EIH 0 is the code of MSET and
DIH 0 of MRESET, "decode gives MSET and MRESET priority" (30_encoding R107). -/
def Instr.wf : Instr → Bool
  | .lai i4 => i4 != 0
  | .adi i4 => i4 != 6 && i4 != 10
  | .eih i4 => i4 != 0
  | .dih i4 => i4 != 0
  | _ => true

end Sys2Proof
end

