-- ==== Sys2Proof/Decode.lean ====
section
/-!
DEFINITION. The decoder, total on any bytes and rejecting by name, written from the opcode maps 30_encoding R105, R106
and R107; the encoder, written from the encoding column of 30_encoding R103; and the byte and cycle counts of R103.
ENC, the parameter for the codes the source lost, is the reconstruction of 30_encoding R112 (PRESUMED, log 9).
-/

namespace Sys2Proof

open Sys2Proof.Machine (hiNib loNib)

/-- Why bytes are no instruction (30_encoding R109): the model's own names, nothing of the hardware. -/
inductive DecodeError where
  /-- There is no byte to read. -/
  | noBytes
  /-- A first byte of a two-byte instruction with nothing after it. -/
  | missingSecond (b1 : Byte)
  /-- A first byte in no row of the table (93 U1). -/
  | unassignedFirst (b1 : Byte)
  /-- A prefix byte with a second byte in no row of the table (93 U2, U3). -/
  | unassignedSecond (b1 b2 : Byte)
  deriving DecidableEq, Repr

/-- The length in bytes that the first byte fixes (30_encoding R101); none for an unassigned first byte. -/
def lengthOf (b1 : Byte) : Option Nat :=
  let lo := (loNib b1).toNat
  match (hiNib b1).toNat with
  | 5 => if lo < 8 then some 2 else some 1
  | 9 => if lo < 14 then some 2 else none
  | 11 => some 2
  | 12 =>
    match lo with
    | 10 => some 1
    | 11 => some 1
    | 12 => none
    | 14 => none
    | _ => some 2
  | 13 => if lo < 14 then some 2 else none
  | 14 => some 2
  | 15 => some 2
  | _ => some 1

/-- Row 0 of the first-byte map (30_encoding R105). -/
def decodeRow0 (b1 : Byte) : Option Instr :=
  match (loNib b1).toNat with
  | 0 => some .nop | 1 => some .ral | 2 => some .adc | 3 => some .andm
  | 4 => some .orm | 5 => some .ora | 6 => some .ad | 7 => some .anda
  | 8 | 9 | 10 | 11 => some (.spb (b1.extractLsb' 0 2))
  | _ => some (.smb (b1.extractLsb' 0 2))

/-- Row 1 of the first-byte map (30_encoding R105). -/
def decodeRow1 (b1 : Byte) : Option Instr :=
  match (loNib b1).toNat with
  | 0 => some .rar | 1 => some .il | 2 => some .im | 3 => some .iy
  | 4 => some .ia | 5 => some .exl | 6 => some .cm | 7 => some .subc
  | 8 => some .cma | 9 => some .ipm | 10 => some .opm | 11 => some .bank
  | 12 => some .rt | 13 => some .rti | 14 => some .clc | _ => some .stc

/-- Row 2 of the first-byte map (30_encoding R105). -/
def decodeRow2 (b1 : Byte) : Option Instr :=
  match (loNib b1).toNat with
  | 0 => some .ip0 | 1 => some .dl | 2 => some .dm | 3 => some .dy
  | 4 => some .da | 5 => some .op | 6 => some .ip | 7 => some .jpea
  | 8 | 9 | 10 | 11 => some (.rpb (b1.extractLsb' 0 2))
  | _ => some (.rmb (b1.extractLsb' 0 2))

/-- Row 4 of the first-byte map (30_encoding R105); bit 1 of an LA or XA code is t0 (R104). -/
def decodeRow4 (b1 : Byte) : Option Instr :=
  match (loNib b1).toNat with
  | 0 => some .xah | 1 => some .xal | 2 => some .xax | 3 => some .xay
  | 4 => some .xae | 5 => some .tae | 6 => some .tea | 7 => some .st
  | 8 => some (.la .hl) | 9 => some (.laI .hl) | 10 => some (.la .xy) | 11 => some (.laI .xy)
  | 12 => some (.xa .hl) | 13 => some (.xaI .hl) | 14 => some (.xa .xy) | _ => some (.xaI .xy)

/-- The one-byte codes of row 5 of the first-byte map, 58H to 5FH (30_encoding R105). -/
def decodeRow5 (b1 : Byte) : Option Instr :=
  match (loNib b1).toNat with
  | 8 => some .rtblp | 9 => some (.laD .hl) | 10 => some .rtbl | 11 => some (.laD .xy)
  | 12 => some .lae | 13 => some (.xaD .hl) | 14 => some .sae | 15 => some (.xaD .xy)
  | _ => none

/-- The one-byte instructions (30_encoding R105). 80H is CLA (R115). -/
def decodeOne (b1 : Byte) : Option Instr :=
  match (hiNib b1).toNat with
  | 0 => decodeRow0 b1
  | 1 => decodeRow1 b1
  | 2 => decodeRow2 b1
  | 3 => some (.rfb (loNib b1))
  | 4 => decodeRow4 b1
  | 5 => decodeRow5 b1
  | 6 => some (.ldz (loNib b1))
  | 7 => some (.sfb (loNib b1))
  | 8 => if loNib b1 = 0 then some .cla else some (.lai (loNib b1))
  | 10 => some (.czp (loNib b1))
  | 12 =>
    match (loNib b1).toNat with
    | 10 => some .wttm0
    | 11 => some .rtim0
    | _ => none
  | _ => none

/-- Second bytes D0H to DFH under the prefix CFH (30_encoding R106). -/
def decodeExtD (b2 : Byte) : Option Instr :=
  match (loNib b2).toNat with
  | 0 | 1 | 2 | 3 => some (.cmb (b2.extractLsb' 0 2))
  | 4 => some .ip45 | 5 => some .op45
  | 10 => some .wtsp | 11 => some .rsp
  | 14 => some .halt | 15 => some .hold
  | _ => none

/-- Second bytes E0H to EFH under the prefix CFH (30_encoding R106). EEH is STARTS. -/
def decodeExtE (b2 : Byte) : Option Instr :=
  match (loNib b2).toNat with
  | 0 => some .tha | 1 => some .tla | 2 => some .txa | 3 => some .tya
  | 6 => some .start0 | 7 => some .start1
  | 8 => some .popHl | 10 => some .popXy | 12 => some .popAe
  | 14 => some .starts | 15 => some .wtsio
  | _ => none

/-- Second bytes F0H to FFH under the prefix CFH (30_encoding R106). FEH, the PUSH pattern with the illegal
selector 11, is not assigned (93 U3). -/
def decodeExtF (b2 : Byte) : Option Instr :=
  match (loNib b2).toNat with
  | 0 => some .tah | 1 => some .tal | 2 => some .tax | 3 => some .tay
  | 4 => some .wttm1 | 5 => some .rtim1 | 6 => some .stop0 | 7 => some .stop1
  | 8 => some .pushHl | 10 => some .pushXy | 12 => some .pushAe
  | 15 => some .rsio
  | _ => none

/-- The second-byte map under the prefix CFH (30_encoding R106). 26H is DAA and 2AH is DAS (R115). -/
def decodeExt (b2 : Byte) : Option Instr :=
  match (hiNib b2).toNat with
  | 0 => some (.lhi (loNib b2))
  | 1 => some (.lli (loNib b2))
  | 2 => if loNib b2 = 6 then some .daa else if loNib b2 = 10 then some .das else some (.adi (loNib b2))
  | 6 => some (.ipdr (loNib b2))
  | 7 => some (.opdr (loNib b2))
  | 10 => some (.ci (loNib b2))
  | 11 => some (.cli (loNib b2))
  | 12 => if (loNib b2).toNat < 4 then some (.sb (b2.extractLsb' 0 2)) else none
  | 13 => decodeExtD b2
  | 14 => decodeExtE b2
  | 15 => decodeExtF b2
  | _ => none

/-- The second-byte map under the prefix CDH (30_encoding R107): 50H is MSET and 90H is MRESET. -/
def decodeIntr (b2 : Byte) : Option Instr :=
  match (hiNib b2).toNat with
  | 4 => some (.eil (loNib b2))
  | 5 => if loNib b2 = 0 then some .mset else some (.eih (loNib b2))
  | 8 => some (.dil (loNib b2))
  | 9 => if loNib b2 = 0 then some .mreset else some (.dih (loNib b2))
  | _ => none

/-- The two-byte codes of rows 9 and D of the first-byte map: `pos` tells the branch on 1 (row D) from the branch
on 0 (row 9) (30_encoding R105). -/
def decodeBranch (pos : Bool) (b1 b2 : Byte) : Option Instr :=
  let t := b1.extractLsb' 0 2
  match (loNib b1).toNat with
  | 0 | 1 | 2 | 3 => some (if pos then .ba t b2 else .bna t b2)
  | 4 | 5 | 6 | 7 => some (if pos then .bm t b2 else .bnm t b2)
  | 8 | 9 | 10 | 11 => some (if pos then .bp t b2 else .bnp t b2)
  | 12 => some (if pos then .bc b2 else .bnc b2)
  | 13 => some (if pos then .bz b2 else .bnz b2)
  | _ => none

/-- The two-byte codes of row C of the first-byte map (30_encoding R105). -/
def decodeRowC (b1 b2 : Byte) : Option Instr :=
  match (loNib b1).toNat with
  | 0 => some (.lxyi b2) | 1 => some (.ladr b2) | 2 => some (.lhli b2) | 3 => some (.dmdr b2)
  | 4 => some (.orpdr (hiNib b2) (loNib b2)) | 5 => some (.andpdr (hiNib b2) (loNib b2))
  | 6 => some (.leai b2) | 7 => some (.imdr b2) | 8 => some (.xadr b2) | 9 => some (.addr b2)
  | 13 => decodeIntr b2 | 15 => decodeExt b2
  | _ => none

/-- The two-byte instructions (30_encoding R105, R106, R107). -/
def decodeTwo (b1 b2 : Byte) : Option Instr :=
  match (hiNib b1).toNat with
  | 5 => if (loNib b1).toNat < 8 then some (.cal (b1.extractLsb' 0 3 ++ b2)) else none
  | 9 => decodeBranch false b1 b2
  | 11 => some (.bnf (loNib b1) b2)
  | 12 => decodeRowC b1 b2
  | 13 => decodeBranch true b1 b2
  | 14 => some (.jmp (loNib b1 ++ b2))
  | 15 => some (.bf (loNib b1) b2)
  | _ => none

/-- Decode the instruction at the head of `bytes`, the byte at the lowest address first (20_memory R72); the answer
holds the bytes after it. -/
def decode (bytes : List Byte) : Except DecodeError (Instr × List Byte) :=
  match bytes with
  | [] => .error .noBytes
  | b1 :: rest =>
    match lengthOf b1 with
    | some 1 =>
      match decodeOne b1 with
      | some i => .ok (i, rest)
      | none => .error (.unassignedFirst b1)
    | some _ =>
      match rest with
      | [] => .error (.missingSecond b1)
      | b2 :: rest' =>
        match decodeTwo b1 b2 with
        | some i => .ok (i, rest')
        | none => .error (.unassignedSecond b1 b2)
    | none => .error (.unassignedFirst b1)

/-- The bytes of an instruction whose bits are `w`, numbered as spec/opcode_table.json numbers them: a one-byte
instruction is an 8-bit word, a two-byte one the 16-bit word {byte 1, byte 2}, so bit 15 is byte 1 bit 7
(30_encoding R102). Every byte above `nbits` is zero, up to the longest instruction, two bytes. -/
def tableBytes (nbits w : Nat) : List Byte :=
  if nbits ≤ 8 then [BitVec.ofNat 8 w, 0#8] else [BitVec.ofNat 8 (w / 256), BitVec.ofNat 8 w]

/-- The instruction the decoder reads from a word of spec/opcode_table.json. -/
def decodeTableWord (nbits w : Nat) : Option Instr :=
  match decode (tableBytes nbits w) with
  | .ok (i, _) => some i
  | .error _ => none

/-- The code bit t0 of LA and XA: 0 is HL, 1 is XY (30_encoding R104). -/
def Ptr.code : Ptr → BitVec 1
  | .hl => 0
  | .xy => 1

/-- The bytes of an instruction, the byte at the lower address first, from the encoding column of 30_encoding R103. -/
def encode : Instr → List Byte
  | .cla => [0b10000000#8]
  | .daa => [0b11001111#8, 0b00100110#8]
  | .das => [0b11001111#8, 0b00101010#8]
  | .clc => [0b00011110#8]
  | .stc => [0b00011111#8]
  | .cma => [0b00011000#8]
  | .ia => [0b00010100#8]
  | .da => [0b00100100#8]
  | .rar => [0b00010000#8]
  | .ral => [0b00000001#8]
  | .tae => [0b01000101#8]
  | .tea => [0b01000110#8]
  | .xae => [0b01000100#8]
  | .im => [0b00010010#8]
  | .dm => [0b00100010#8]
  | .imdr i8 => [0b11000111#8, i8]
  | .dmdr i8 => [0b11000011#8, i8]
  | .smb t2 => [0b000011#6 ++ t2]
  | .rmb t2 => [0b001011#6 ++ t2]
  | .ad => [0b00000110#8]
  | .addr i8 => [0b11001001#8, i8]
  | .adc => [0b00000010#8]
  | .adi i4 => [0b11001111#8, 0b0010#4 ++ i4]
  | .subc => [0b00010111#8]
  | .anda => [0b00000111#8]
  | .ora => [0b00000101#8]
  | .exl => [0b00010101#8]
  | .andm => [0b00000011#8]
  | .orm => [0b00000100#8]
  | .cm => [0b00010110#8]
  | .ci i4 => [0b11001111#8, 0b1010#4 ++ i4]
  | .cli i4 => [0b11001111#8, 0b1011#4 ++ i4]
  | .cmb t2 => [0b11001111#8, 0b110100#6 ++ t2]
  | .lae => [0b01011100#8]
  | .lai i4 => [0b1000#4 ++ i4]
  | .ladr i8 => [0b11000001#8, i8]
  | .st => [0b01000111#8]
  | .sae => [0b01011110#8]
  | .la r => [0b010010#6 ++ r.code ++ 0b0#1]
  | .laI r => [0b010010#6 ++ r.code ++ 0b1#1]
  | .laD r => [0b010110#6 ++ r.code ++ 0b1#1]
  | .xa r => [0b010011#6 ++ r.code ++ 0b0#1]
  | .xaI r => [0b010011#6 ++ r.code ++ 0b1#1]
  | .xaD r => [0b010111#6 ++ r.code ++ 0b1#1]
  | .xadr i8 => [0b11001000#8, i8]
  | .leai i8 => [0b11000110#8, i8]
  | .rtbl => [0b01011010#8]
  | .rtblp => [0b01011000#8]
  | .ldz i4 => [0b0110#4 ++ i4]
  | .lhi i4 => [0b11001111#8, 0b0000#4 ++ i4]
  | .lli i4 => [0b11001111#8, 0b0001#4 ++ i4]
  | .lhli i8 => [0b11000010#8, i8]
  | .lxyi i8 => [0b11000000#8, i8]
  | .il => [0b00010001#8]
  | .dl => [0b00100001#8]
  | .iy => [0b00010011#8]
  | .dy => [0b00100011#8]
  | .tah => [0b11001111#8, 0b11110000#8]
  | .tha => [0b11001111#8, 0b11100000#8]
  | .xah => [0b01000000#8]
  | .tal => [0b11001111#8, 0b11110001#8]
  | .tla => [0b11001111#8, 0b11100001#8]
  | .xal => [0b01000001#8]
  | .tax => [0b11001111#8, 0b11110010#8]
  | .txa => [0b11001111#8, 0b11100010#8]
  | .xax => [0b01000010#8]
  | .tay => [0b11001111#8, 0b11110011#8]
  | .tya => [0b11001111#8, 0b11100011#8]
  | .xay => [0b01000011#8]
  | .sfb n4 => [0b0111#4 ++ n4]
  | .rfb n4 => [0b0011#4 ++ n4]
  | .jmp p => [0b1110#4 ++ p.extractLsb' 8 4, p.extractLsb' 0 8]
  | .jpea => [0b00100111#8]
  | .cal p => [0b01010#5 ++ p.extractLsb' 8 3, p.extractLsb' 0 8]
  | .czp p => [0b1010#4 ++ p]
  | .bank => [0b00011011#8]
  | .pushHl => [0b11001111#8, 0b11111000#8]
  | .pushXy => [0b11001111#8, 0b11111010#8]
  | .pushAe => [0b11001111#8, 0b11111100#8]
  | .popHl => [0b11001111#8, 0b11101000#8]
  | .popXy => [0b11001111#8, 0b11101010#8]
  | .popAe => [0b11001111#8, 0b11101100#8]
  | .rt => [0b00011100#8]
  | .rti => [0b00011101#8]
  | .ba t2 p => [0b110100#6 ++ t2, p]
  | .bna t2 p => [0b100100#6 ++ t2, p]
  | .bm t2 p => [0b110101#6 ++ t2, p]
  | .bnm t2 p => [0b100101#6 ++ t2, p]
  | .bp t2 p => [0b110110#6 ++ t2, p]
  | .bnp t2 p => [0b100110#6 ++ t2, p]
  | .bc p => [0b11011100#8, p]
  | .bnc p => [0b10011100#8, p]
  | .bz p => [0b11011101#8, p]
  | .bnz p => [0b10011101#8, p]
  | .bf n4 p => [0b1111#4 ++ n4, p]
  | .bnf n4 p => [0b1011#4 ++ n4, p]
  | .ip0 => [0b00100000#8]
  | .ip => [0b00100110#8]
  | .ipm => [0b00011001#8]
  | .ipdr i4 => [0b11001111#8, 0b0110#4 ++ i4]
  | .ip45 => [0b11001111#8, 0b11010100#8]
  | .op => [0b00100101#8]
  | .opm => [0b00011010#8]
  | .opdr i4 => [0b11001111#8, 0b0111#4 ++ i4]
  | .op45 => [0b11001111#8, 0b11010101#8]
  | .spb t2 => [0b000010#6 ++ t2]
  | .rpb t2 => [0b001010#6 ++ t2]
  | .andpdr i4 p4 => [0b11000101#8, i4 ++ p4]
  | .orpdr i4 p4 => [0b11000100#8, i4 ++ p4]
  | .wttm0 => [0b11001010#8]
  | .wttm1 => [0b11001111#8, 0b11110100#8]
  | .rtim0 => [0b11001011#8]
  | .rtim1 => [0b11001111#8, 0b11110101#8]
  | .start0 => [0b11001111#8, 0b11100110#8]
  | .start1 => [0b11001111#8, 0b11100111#8]
  | .stop0 => [0b11001111#8, 0b11110110#8]
  | .stop1 => [0b11001111#8, 0b11110111#8]
  | .mset => [0b11001101#8, 0b01010000#8]
  | .mreset => [0b11001101#8, 0b10010000#8]
  | .eih i4 => [0b11001101#8, 0b0101#4 ++ i4]
  | .eil i4 => [0b11001101#8, 0b0100#4 ++ i4]
  | .dih i4 => [0b11001101#8, 0b1001#4 ++ i4]
  | .dil i4 => [0b11001101#8, 0b1000#4 ++ i4]
  | .wtsp => [0b11001111#8, 0b11011010#8]
  | .rsp => [0b11001111#8, 0b11011011#8]
  | .halt => [0b11001111#8, 0b11011110#8]
  | .hold => [0b11001111#8, 0b11011111#8]
  | .starts => [0b11001111#8, 0b11101110#8]
  | .wtsio => [0b11001111#8, 0b11101111#8]
  | .rsio => [0b11001111#8, 0b11111111#8]
  | .nop => [0b00000000#8]
  | .sb i2 => [0b11001111#8, 0b110000#6 ++ i2]

/-- "Number of bytes" (30_encoding R103, R101). -/
def Instr.length : Instr → Nat
  | .cla => 1
  | .daa => 2
  | .das => 2
  | .clc => 1
  | .stc => 1
  | .cma => 1
  | .ia => 1
  | .da => 1
  | .rar => 1
  | .ral => 1
  | .tae => 1
  | .tea => 1
  | .xae => 1
  | .im => 1
  | .dm => 1
  | .imdr _ => 2
  | .dmdr _ => 2
  | .smb _ => 1
  | .rmb _ => 1
  | .ad => 1
  | .addr _ => 2
  | .adc => 1
  | .adi _ => 2
  | .subc => 1
  | .anda => 1
  | .ora => 1
  | .exl => 1
  | .andm => 1
  | .orm => 1
  | .cm => 1
  | .ci _ => 2
  | .cli _ => 2
  | .cmb _ => 2
  | .lae => 1
  | .lai _ => 1
  | .ladr _ => 2
  | .st => 1
  | .sae => 1
  | .la _ => 1
  | .laI _ => 1
  | .laD _ => 1
  | .xa _ => 1
  | .xaI _ => 1
  | .xaD _ => 1
  | .xadr _ => 2
  | .leai _ => 2
  | .rtbl => 1
  | .rtblp => 1
  | .ldz _ => 1
  | .lhi _ => 2
  | .lli _ => 2
  | .lhli _ => 2
  | .lxyi _ => 2
  | .il => 1
  | .dl => 1
  | .iy => 1
  | .dy => 1
  | .tah => 2
  | .tha => 2
  | .xah => 1
  | .tal => 2
  | .tla => 2
  | .xal => 1
  | .tax => 2
  | .txa => 2
  | .xax => 1
  | .tay => 2
  | .tya => 2
  | .xay => 1
  | .sfb _ => 1
  | .rfb _ => 1
  | .jmp _ => 2
  | .jpea => 1
  | .cal _ => 2
  | .czp _ => 1
  | .bank => 1
  | .pushHl => 2
  | .pushXy => 2
  | .pushAe => 2
  | .popHl => 2
  | .popXy => 2
  | .popAe => 2
  | .rt => 1
  | .rti => 1
  | .ba _ _ => 2
  | .bna _ _ => 2
  | .bm _ _ => 2
  | .bnm _ _ => 2
  | .bp _ _ => 2
  | .bnp _ _ => 2
  | .bc _ => 2
  | .bnc _ => 2
  | .bz _ => 2
  | .bnz _ => 2
  | .bf _ _ => 2
  | .bnf _ _ => 2
  | .ip0 => 1
  | .ip => 1
  | .ipm => 1
  | .ipdr _ => 2
  | .ip45 => 2
  | .op => 1
  | .opm => 1
  | .opdr _ => 2
  | .op45 => 2
  | .spb _ => 1
  | .rpb _ => 1
  | .andpdr _ _ => 2
  | .orpdr _ _ => 2
  | .wttm0 => 1
  | .wttm1 => 2
  | .rtim0 => 1
  | .rtim1 => 2
  | .start0 => 2
  | .start1 => 2
  | .stop0 => 2
  | .stop1 => 2
  | .mset => 2
  | .mreset => 2
  | .eih _ => 2
  | .eil _ => 2
  | .dih _ => 2
  | .dil _ => 2
  | .wtsp => 2
  | .rsp => 2
  | .halt => 2
  | .hold => 2
  | .starts => 2
  | .wtsio => 2
  | .rsio => 2
  | .nop => 1
  | .sb _ => 2

/-- "Number of cycles", in instruction cycles (30_encoding R103, R116). -/
def Instr.cycles : Instr → Nat
  | .cla => 1
  | .daa => 2
  | .das => 2
  | .clc => 1
  | .stc => 1
  | .cma => 1
  | .ia => 1
  | .da => 1
  | .rar => 1
  | .ral => 1
  | .tae => 1
  | .tea => 1
  | .xae => 1
  | .im => 1
  | .dm => 1
  | .imdr _ => 2
  | .dmdr _ => 2
  | .smb _ => 1
  | .rmb _ => 1
  | .ad => 1
  | .addr _ => 2
  | .adc => 1
  | .adi _ => 2
  | .subc => 1
  | .anda => 1
  | .ora => 1
  | .exl => 1
  | .andm => 1
  | .orm => 1
  | .cm => 1
  | .ci _ => 2
  | .cli _ => 2
  | .cmb _ => 2
  | .lae => 1
  | .lai _ => 1
  | .ladr _ => 2
  | .st => 1
  | .sae => 1
  | .la _ => 1
  | .laI _ => 2
  | .laD _ => 2
  | .xa _ => 1
  | .xaI _ => 2
  | .xaD _ => 2
  | .xadr _ => 2
  | .leai _ => 2
  | .rtbl => 2
  | .rtblp => 2
  | .ldz _ => 1
  | .lhi _ => 2
  | .lli _ => 2
  | .lhli _ => 2
  | .lxyi _ => 2
  | .il => 1
  | .dl => 1
  | .iy => 1
  | .dy => 1
  | .tah => 2
  | .tha => 2
  | .xah => 1
  | .tal => 2
  | .tla => 2
  | .xal => 1
  | .tax => 2
  | .txa => 2
  | .xax => 1
  | .tay => 2
  | .tya => 2
  | .xay => 1
  | .sfb _ => 1
  | .rfb _ => 1
  | .jmp _ => 2
  | .jpea => 1
  | .cal _ => 2
  | .czp _ => 2
  | .bank => 1
  | .pushHl => 2
  | .pushXy => 2
  | .pushAe => 2
  | .popHl => 2
  | .popXy => 2
  | .popAe => 2
  | .rt => 2
  | .rti => 2
  | .ba _ _ => 2
  | .bna _ _ => 2
  | .bm _ _ => 2
  | .bnm _ _ => 2
  | .bp _ _ => 2
  | .bnp _ _ => 2
  | .bc _ => 2
  | .bnc _ => 2
  | .bz _ => 2
  | .bnz _ => 2
  | .bf _ _ => 2
  | .bnf _ _ => 2
  | .ip0 => 1
  | .ip => 1
  | .ipm => 1
  | .ipdr _ => 2
  | .ip45 => 2
  | .op => 1
  | .opm => 1
  | .opdr _ => 2
  | .op45 => 2
  | .spb _ => 1
  | .rpb _ => 1
  | .andpdr _ _ => 2
  | .orpdr _ _ => 2
  | .wttm0 => 2
  | .wttm1 => 2
  | .rtim0 => 2
  | .rtim1 => 2
  | .start0 => 2
  | .start1 => 2
  | .stop0 => 2
  | .stop1 => 2
  | .mset => 2
  | .mreset => 2
  | .eih _ => 2
  | .eil _ => 2
  | .dih _ => 2
  | .dil _ => 2
  | .wtsp => 2
  | .rsp => 2
  | .halt => 2
  | .hold => 2
  | .starts => 2
  | .wtsio => 2
  | .rsio => 2
  | .nop => 1
  | .sb _ => 2

end Sys2Proof
end

