-- ==== Sys2Proof/Config.lean ====
section
/-!
DEFINITION. What one implementation fixes and the spec leaves open (00_scope R9), and the free values.
Every `opaque` constant here has no body: a theorem holds whatever it is. The parameters for which the spec
gives a default have their TYPE here and their value in Sys2Proof/Machine/Params.lean.
-/

namespace Sys2Proof

/-- The ten ports by name (20_memory R69). -/
inductive Port where
  | p0 | p1 | p2 | p3 | p4 | p5 | p6 | pc | pd | pe
  deriving DecidableEq, Repr, Inhabited

/-- The levels outside drives on the pins of each port, bit i of a field being pin i. A bit of a port that
has no pin (PC bits 0 and 1, PE bits 2 and 3) is an unstated value of its own (92 D26). -/
structure Pins where
  p0 : Nibble
  p1 : Nibble
  p2 : Nibble
  p3 : Nibble
  p4 : Nibble
  p5 : Nibble
  p6 : Nibble
  pc : Nibble
  pd : Nibble
  pe : Nibble
  deriving DecidableEq, Repr, Inhabited

/-- The pin pairs that can carry an inverter circuit, input pin first (20_memory R77, 60_exceptions R341). -/
inductive InverterPair where
  | p40p41 | p42p43 | pd0pd1 | pd2pd3
  deriving DecidableEq, Repr, Inhabited

/-- The inverter circuit of one pair. -/
structure InverterCircuit where
  /-- The inverter output is on (10_state R45). -/
  on : Bool
  /-- The port I/O circuit of the pair's pins "is disabled by the DSB signal" (60_exceptions R341). -/
  portDisabled : Bool
  deriving DecidableEq, Repr, Inhabited

/-- The inverter circuit of each pair (10_state R45, 60_exceptions R341). -/
structure Inverters where
  p40p41 : InverterCircuit
  p42p43 : InverterCircuit
  pd0pd1 : InverterCircuit
  pd2pd3 : InverterCircuit
  deriving DecidableEq, Repr, Inhabited

/-- What a pin with a shared output function carries (20_memory R69, 60_exceptions R337 to R341). -/
inductive PinUse where
  /-- The port output, through its output type. -/
  | port
  /-- The signal of a device. -/
  | device
  /-- A 3-state output in one of its two driven states: the latch, low or high. -/
  | driven
  /-- A 3-state output in its third state. -/
  | highImpedance
  deriving DecidableEq, Repr, Inhabited

/-- What each output pin shared with a device carries (20_memory R69). -/
structure SharedOutputs where
  /-- P21 carries SO0. -/
  so0 : Bool
  /-- P22 carries SCK0. -/
  sck0 : Bool
  /-- P31, also POUT0, and one of the two pins that support 3-state outputs. -/
  p31 : PinUse
  /-- P32, also POUT1, and the other of them. -/
  p32 : PinUse
  /-- P60 carries ML, where the option enables it. -/
  ml : Bool
  /-- P62 carries DT. -/
  dt : Bool
  deriving DecidableEq, Repr, Inhabited

namespace Config

/-- PAGE_BASE (92 D8): which PC value supplies the upper bits that a same-page or same-bank operation keeps. -/
inductive PageBase where
  /-- The address after the instruction. -/
  | next
  /-- The address of the instruction's first byte. -/
  | own
  deriving DecidableEq, Repr, Inhabited

/-- DEC_CF (92 D2): what CF is after a decrement. -/
inductive DecCf where
  | notBorrow | borrow
  deriving DecidableEq, Repr, Inhabited

/-- SUBC_BORROW_IN (92 D2): whether SUBC subtracts CF or its complement. -/
inductive SubcBorrowIn where
  | literal | complement
  deriving DecidableEq, Repr, Inhabited

/-- VSKIP (92 D14): the "vertical skip function" of LAI and CLA. -/
inductive VSkip where
  | skip | none
  deriving DecidableEq, Repr, Inhabited

/-- PORT_RMW_SOURCE (92 D12): what SPB, RPB, ANDPDR and ORPDR read. -/
inductive RmwSource where
  | pin | latch
  deriving DecidableEq, Repr, Inhabited

/-- IRQ_ENTRY_MSE (92 D13): what interrupt entry does to MSE. The spec names the default `clear` only; the
other reading leaves MSE as it is. -/
inductive EntryMse where
  | clear | unchanged
  deriving DecidableEq, Repr, Inhabited

/-- RTI_MSE (92 D13): what RTI does to MSE. -/
inductive RtiMse where
  | unchanged | set
  deriving DecidableEq, Repr, Inhabited

/-- PAGE_BASE of this hardware, uninterpreted; it matters at page and bank ends only (93 U5, log 20). -/
opaque pageBase : PageBase

/-- VEC[k]: the address of vector location k (60_exceptions R323, R330). -/
opaque vec : Fin 7 → RomAddr

/-- FACTOR_VEC[f]: the vector location of factor f (60_exceptions R323). -/
opaque factorVec : Fin 10 → Fin 7

/-- IRQ_BIT[f]: which bit of {EDIH, EDIL} enables factor f (60_exceptions R327). -/
opaque irqBit : Fin 10 → Fin 8

/-- IRQ_PRIORITY as a rank, the smallest first; factors of equal rank go by number, so that every rank
function gives a total order and every total order is given by one (60_exceptions R329). -/
opaque irqRank : Fin 10 → Nat

/-- The levels outside drives on the pins where the environment's record does not say (92 D12). -/
opaque freePins : Nat → Pins

/-- What the pins of a port read that are no inputs: of the CMOS output type with the latch at 1 (93 U20), or with the I/O
circuit disabled (60_exceptions R341). -/
opaque freePinRead : Nat → Port → Nibble

/-- The inverter circuits while the machine runs: the DSB signal's control is not described (60_exceptions R341;
log 46). -/
opaque freeInverters : Nat → Inverters

/-- What the shared output pins carry while the machine runs: how a program selects a device's output or a 3-state output
"is not in the source" (60_exceptions R337 to R342; logs 44, 48). -/
opaque freeShared : Nat → SharedOutputs

/-- Whether the port output types, open-drain since RES was low, are set up by this boundary: "during the 9 instruction
cycles immediately after RES is set high" (70 R362; log 47). -/
opaque freeTypesSet : Nat → Bool

/-- What a byte of program memory that the image does not list reads as: "the blank value of the PROM is not in the
source" (49_system_control R311; log 4). -/
opaque romContent : (address : Nat) → Byte

/-- What a read of an internal control register returns, by draw and register number (92 D20). -/
opaque freeControl : Nat → Nibble → Nibble

/-- The counter of timer 0 while it runs or has just been started (60_exceptions R337). -/
opaque freeT0 : Nat → BitVec 12

/-- The counter of timer 1 while it runs or has just been started (60_exceptions R338). -/
opaque freeT1 : Nat → BitVec 8

/-- The serial register during a transfer (60_exceptions R339). -/
opaque freeSio : Nat → BitVec 8

/-- The content of a data-memory word that nothing has written since reset number `epoch`
(10_state R45, 93 U17). -/
opaque ramContent : (epoch : Nat) → (address : Nat) → Nibble

end Config

end Sys2Proof
end

