-- ==== Sys2Proof/Machine/Memory.lean ====
section
/-!
DEFINITION. Memories as canonical lists, and the two memories of the machine: program memory (20_memory R61) and data
memory (20_memory R62). The canonical form: keys strictly rising, every key inside the address space. An unlisted address
reads as a free value, which no entry can be known to equal, so a write always lists its entry (logs 3, 4).
-/

namespace Sys2Proof.Machine

namespace Memory

/-- The entry at a key, if the list has one. -/
def lookup {w : Nat} : Memory w → Nat → Option (BitVec w)
  | [], _ => none
  | (b, v) :: rest, a => if a = b then some v else lookup rest a

/-- Put an entry in its place among rising keys, over an older one of the same key. -/
def put {w : Nat} : Memory w → Nat → BitVec w → Memory w
  | [], a, v => [(a, v)]
  | (b, u) :: rest, a, v =>
    if a < b then (a, v) :: (b, u) :: rest
    else if a = b then (a, v) :: rest
    else (b, u) :: put rest a v

/-- The keys strictly rise. -/
def rising {w : Nat} : Memory w → Bool
  | [] => true
  | (a, _) :: rest => rest.all (fun c => a < c.1) && rising rest

/-- The canonical form. -/
def wf {w : Nat} (size : Nat) (m : Memory w) : Bool := rising m && m.all fun c => c.1 < size

end Memory

/-- `RomRead(a)` (00_scope R13). A byte the image does not list is a free value: "Erased OTP ROM does not read as NOP: the
blank value of the PROM is not in the source" (49_system_control R311; log 4). -/
def romByte (rom : Memory 8) (a : RomAddr) : Byte := (Memory.lookup rom a.toNat).getD (Config.romContent a.toNat)

/-- The image with one byte placed; no instruction does this (20_memory R82), only loading a program. -/
def storeRom (rom : Memory 8) (a : RomAddr) (v : Byte) : Memory 8 := Memory.put rom a.toNat v

/-- Canonical form of program memory: 16,384 bytes (20_memory R61). -/
def romWf (rom : Memory 8) : Bool := Memory.wf 16384 rom

/-- One word of data memory. A word that nothing has written since reset number `epoch` is a free value fixed at that
reset (10_state R45, 93 U17; log 3). -/
def ramWord (ram : Memory 4) (epoch : Nat) (a : RamAddr) : Nibble :=
  (Memory.lookup ram a.toNat).getD (Config.ramContent epoch a.toNat)

/-- Data memory with one word written. -/
def storeRam (ram : Memory 4) (a : RamAddr) (v : Nibble) : Memory 4 := Memory.put ram a.toNat v

/-- Canonical form of data memory: 512 words (20_memory R62). -/
def ramWf (ram : Memory 4) : Bool := Memory.wf 512 ram

/-- The word after `a`: "computed in the low 8 bits, the bank bit unchanged" (00_scope R13). -/
def nextWord (a : RamAddr) : RamAddr := a.extractLsb' 8 1 ++ (a.extractLsb' 0 8 + 1#8)

end Sys2Proof.Machine
end

