-- ==== Sys2Proof/Machine/Options.lean ====
section
/-!
DEFINITION. The option specification area 3FF0H to 3FFFH (20_memory R76, R77): what its bits select, the port latches
after reset, and which images follow the table. An image that does not is outside what a claim should accept
(93 U16, U21); the machine itself runs whatever image it is given (log 40).
-/

namespace Sys2Proof.Machine

/-- The output latches PL[p] of the output-capable ports (10_state R41). Bits with no output pin (bit 3 of P3, bits 0 and
1 of PC) are held 0. -/
structure Latches where
  p0 : Nibble
  p1 : Nibble
  p2 : Nibble
  p3 : Nibble
  p4 : Nibble
  p5 : Nibble
  p6 : Nibble
  pc : Nibble
  deriving DecidableEq, Repr

/-- Option byte 3FF0H + n. -/
def optionByte (rom : Memory 8) (n : Nibble) : Byte := romByte rom (0x3FF#10 ++ n)

/-- "watchdog timer option: 0 = none, 1 = yes (present)" (20_memory R77, 3FF0H bit 0). -/
def watchdogPresent (rom : Memory 8) : Bool := (optionByte rom 0).getLsbD 0

/-- All ones or all zeros. -/
def level (high : Bool) : Nibble := if high then 15#4 else 0#4

/-- The output latches at reset (10_state R45): P0 and P1 by bits 1 and 2 of 3FF0H (1 = high), P4 and P5 by bits 6 and 7
(0 = high) (20_memory R77), the others high where they have an output pin. -/
def resetLatches (rom : Memory 8) : Latches :=
  let o := optionByte rom 0
  { p0 := level (o.getLsbD 1), p1 := level (o.getLsbD 2), p2 := 15, p3 := 7,
    p4 := level (!o.getLsbD 6), p5 := level (!o.getLsbD 7), p6 := 15, pc := 12 }

/-- The output-type bits of a port, 0 = OD (open drain), 1 = PU (20_memory R77, 3FF1H to 3FF4H, 3FF7H). -/
def outputTypePu (rom : Memory 8) : Port → Nibble
  | .p0 => (optionByte rom 1).extractLsb' 0 4
  | .p1 => (optionByte rom 1).extractLsb' 4 4
  | .p2 => (optionByte rom 2).extractLsb' 0 4
  | .p3 => 0#1 ++ (optionByte rom 2).extractLsb' 4 3
  | .p4 => (optionByte rom 3).extractLsb' 0 4
  | .p5 => (optionByte rom 3).extractLsb' 4 4
  | .p6 => (optionByte rom 4).extractLsb' 0 4
  | .pc => (optionByte rom 7).extractLsb' 2 2 ++ 0#2
  | .pd => 0
  | .pe => 0

/-- Whether the option gives a pair its inverter circuit: bits 0 and 1 (P41, P43), 3 and 4 (PD1, PD3) of 3FF8H,
"0 = inverter output, 1 = none" (20_memory R77, 60_exceptions R341). -/
def inverterFitted (rom : Memory 8) : InverterPair → Bool
  | .p40p41 => !(optionByte rom 8).getLsbD 0
  | .p42p43 => !(optionByte rom 8).getLsbD 1
  | .pd0pd1 => !(optionByte rom 8).getLsbD 3
  | .pd2pd3 => !(optionByte rom 8).getLsbD 4

/-- "ML disabled option: 0 = disabled, 1 = enabled" (20_memory R77, 3FF8H bit 7; 60_exceptions R340), read as: whether the
melody output ML is enabled (DEDUCED, log 48). -/
def melodyEnabled (rom : Memory 8) : Bool := (optionByte rom 8).getLsbD 7

/-- The image follows the option table (20_memory R77, 70 R366; 93 U16, U21): "must be set to 0" bits are 0, "must be
set to 1" bits are 1, the reserved bytes are 00, and an inverter pair has open-drain type and the high level at reset. -/
def optionsAccepted (rom : Memory 8) : Bool :=
  (optionByte rom 0 &&& 0x28#8 == 0) && (optionByte rom 2 &&& 0x80#8 == 0) && (optionByte rom 4 &&& 0xF0#8 == 0)
    && (optionByte rom 5 == 0) && (optionByte rom 6 == 0) && (optionByte rom 7 &&& 0xF3#8 == 0)
    && (optionByte rom 8 &&& 0x64#8 == 0x64#8)
    && [9, 10, 11, 12, 13, 14, 15].all (fun n => optionByte rom n == 0)
    && [(InverterPair.p40p41, 3#4), (.p42p43, 12#4)].all (fun k =>
      !inverterFitted rom k.1 || (outputTypePu rom .p4 &&& k.2 == 0 && (resetLatches rom).p4 == 15))

end Sys2Proof.Machine
end

