-- ==== Sys2Proof/Machine/Params.lean ====
section
/-!
DEFINITION. The parameters of 00_scope R9 for which the spec gives a default that its rules use: this model adopts
each default. Every one is the spec's decision, not the data sheet's statement (log entries named below); each is unsafe
where the hardware has the other value. The operations that depend on one take it as an argument, so that a statement can
be made for every value.
-/

namespace Sys2Proof.Machine.Params

open Sys2Proof.Config

/-- DEC_CF = not_borrow (92 D2; log 12). -/
def decCf : DecCf := .notBorrow

/-- SUBC_BORROW_IN = literal (92 D2; log 13). -/
def subcBorrowIn : SubcBorrowIn := .literal

/-- VSKIP = skip (92 D14; log 15). -/
def vskip : VSkip := .skip

/-- PORT_RMW_SOURCE = pin (92 D12; log 25). -/
def rmwSource : RmwSource := .pin

/-- STACK_BANK = 0 (92 D5; log 18). -/
def stackBank : BitVec 1 := 0#1

/-- IRQ_ENTRY_MSE = clear (92 D13; log 28). -/
def entryMse : EntryMse := .clear

/-- RTI_MSE = unchanged (92 D13; log 29). -/
def rtiMse : RtiMse := .unchanged

end Sys2Proof.Machine.Params
end

