-- ==== Sys2Proof/Machine/State.lean ====
section
/-!
DEFINITION. The state of the LC66P2316 (10_state), all of it plain data, the reasons a step can stop, and the state
after reset (10_state R45, 70 R360, R361). INVENTORY.md lists every field with its rule and reset value.
-/

namespace Sys2Proof.Machine

/-- MODE (10_state R42). -/
inductive Mode where
  | run | halt | hold
  deriving DecidableEq, Repr

/-- Where the machine is in the reset sequence (70 R360, R362). -/
inductive ResetPhase where
  /-- Out of reset: the options are loaded and the program runs, or a standby mode holds. -/
  | out
  /-- Reset is asserted: RES is low since it reset the machine, or the watchdog has just expired. -/
  | asserted
  /-- The nine instruction cycles after RES goes high, in which the port output types are set up. -/
  | loading
  deriving DecidableEq, Repr

/-- What the environment does at one instruction boundary (60_exceptions R325, R326, R343, R347; 70 R360). The model's
own (log 8). -/
structure EnvEvent where
  /-- The levels outside drives on the pins; none where nothing is said of them. -/
  pins : Option Pins
  /-- The interrupt factors requested, bit f for factor f. -/
  raise : BitVec 10
  /-- The halt-control event on P00 to P03 (60_exceptions R343 (c)). -/
  p0Release : Bool
  /-- The RES pin is low at this boundary, held as long as a valid reset requires (70 R360; log 35). -/
  res : Bool
  /-- The watchdog expires (60_exceptions R347). -/
  watchdog : Bool
  /-- The serial transfer ends (60_exceptions R339). -/
  sioEnd : Bool
  deriving DecidableEq, Repr

/-- A boundary at which the environment does nothing and nothing is said of the pins. -/
def EnvEvent.quiet : EnvEvent :=
  { pins := none, raise := 0, p0Release := false, res := false, watchdog := false, sioEnd := false }

/-- The machine's state. -/
structure State where
  /-- AC (10_state R20). -/
  ac : Nibble
  /-- E (10_state R21). -/
  e : Nibble
  /-- DPH (10_state R22). -/
  dph : Nibble
  /-- DPL (10_state R22). -/
  dpl : Nibble
  /-- DPX (10_state R22). -/
  dpx : Nibble
  /-- DPY (10_state R22). -/
  dpy : Nibble
  /-- PC (10_state R24). -/
  pc : RomAddr
  /-- SP (10_state R29). -/
  sp : Byte
  /-- CF (10_state R30). -/
  cf : Bool
  /-- ZF (10_state R31). -/
  zf : Bool
  /-- The user flags, F[n] in bit n (10_state R32). -/
  f : BitVec 16
  /-- MSE (10_state R33). -/
  mse : Bool
  /-- EDIH (10_state R34). -/
  edih : Nibble
  /-- EDIL (10_state R34). -/
  edil : Nibble
  /-- The BANK latch (10_state R39). -/
  bnk : Bool
  /-- The vertical-skip latch (10_state R40). -/
  lsk : Bool
  /-- MODE (10_state R42). -/
  mode : Mode
  /-- The reset sequence (70 R360). -/
  phase : ResetPhase
  /-- Whether the port outputs have the types that the options select; open-drain otherwise, so from the moment RES is low,
  whatever P33/HOLD is, until the types are set up again (10_state R45, 70 R360, R362). -/
  typesSet : Bool
  /-- Data memory, 512 words of 4 bits (20_memory R62). -/
  ram : Memory 4
  /-- Program memory with its option area (20_memory R61, R76). -/
  rom : Memory 8
  /-- PL[p] (10_state R41). -/
  latch : Latches
  /-- The inverter circuits (10_state R45, 60_exceptions R341, R343, R344). -/
  inverters : Inverters
  /-- What the output pins shared with a device carry (20_memory R69, 60_exceptions R337 to R341). -/
  shared : SharedOutputs
  /-- CR[0..15], what was written to each (10_state R35). -/
  ctl : Vector Nibble 16
  /-- T0_RELOAD (10_state R36). -/
  t0Reload : BitVec 12
  /-- T0_COUNT (10_state R36). -/
  t0Count : BitVec 12
  /-- T0_RUN (10_state R36). -/
  t0Run : Bool
  /-- T1_RELOAD_A (10_state R37). -/
  t1ReloadA : BitVec 8
  /-- T1_COUNT (10_state R37). -/
  t1Count : BitVec 8
  /-- T1_RUN (10_state R37). -/
  t1Run : Bool
  /-- SIO (10_state R38). -/
  sio : BitVec 8
  /-- SIO_RUN (10_state R38). -/
  sioRun : Bool
  /-- IRQ_PENDING, bit f for factor f (10_state R43, 60_exceptions R326). -/
  irqPending : BitVec 10
  /-- The model's own: the levels outside drives on the pins at this boundary (20_memory R71; log 7). -/
  pins : Pins
  /-- The model's own: what the environment does at the coming boundaries, one record a boundary (log 8). -/
  env : List EnvEvent
  /-- The model's own: the counter the free values are applied to (log 6). -/
  draws : Nat
  /-- The model's own: which power-on content the never-written data words have (log 3). -/
  ramEpoch : Nat
  deriving DecidableEq, Repr

/-- The model-level faults (60_exceptions R321). None is a hardware exception (60_exceptions R320): the spec leaves the
behaviour undefined and gives no effect, so the model stops, which is safe. -/
inductive Fault where
  /-- Raised by `step` on a first or second byte in no row of the opcode map (93 U1, U2, U3). Safe. -/
  | unassignedOpcode (pc : RomAddr) (b1 b2 : Byte)
  /-- Raised by `step` when an instruction byte would be fetched from the option area 3FF0H to 3FFFH (93 U6), also where
  the bytes are in no row of the map (DESIGN CHOICE, log 21). Safe. -/
  | badPlacement (pc : RomAddr)
  /-- Raised by LAE, SAE, WTTM0 and RTIM0 when DPL is odd (93 U4). Safe. -/
  | oddM2 (hl : Byte)
  /-- Raised by a port instruction outside a BANK sequence on a port number with no port (93 U13). Safe. -/
  | noPort (number : Nibble)
  deriving DecidableEq, Repr

/-- Refusals. -/
inductive Refusal where
  /-- Raised by `exec` for an instruction that has no meaning yet; no arm is left with it. Safe. -/
  | notModelled (mnemonic : String)
  deriving DecidableEq, Repr

/-- What an instruction answers. -/
abbrev Result := Host.Outcome State Fault Refusal

/-- The machine right after reset (10_state R45, 70 R361). PC = 0, MODE = RUN, BNK = LSK = 0 and the port latches are the
spec's; MSE, EDIH, EDIL and IRQ_PENDING are the spec's named defaults (PRESUMED, log 2); every register the spec leaves
unspecified is 0 (DESIGN CHOICE, unsafe, log 1); the latches of P0, P1, P4, P5 follow the option bits of the blank
program memory, which are free values (logs 4, 40); "Inverter I/O is set to the output off state"; the port circuits are enabled and the
shared pins carry the port's reset level (DESIGN CHOICE, logs 46, 48). -/
def State.reset : State where
  ac := 0
  e := 0
  dph := 0
  dpl := 0
  dpx := 0
  dpy := 0
  pc := 0
  sp := 0
  cf := false
  zf := false
  f := 0
  mse := false
  edih := 0
  edil := 0
  bnk := false
  lsk := false
  mode := .run
  phase := .out
  typesSet := true
  ram := []
  rom := []
  latch := resetLatches []
  inverters := { p40p41 := ⟨false, false⟩, p42p43 := ⟨false, false⟩, pd0pd1 := ⟨false, false⟩, pd2pd3 := ⟨false, false⟩ }
  shared := { so0 := false, sck0 := false, p31 := .port, p32 := .port, ml := false, dt := false }
  ctl := Vector.replicate 16 0
  t0Reload := 0
  t0Count := 0
  t0Run := false
  t1ReloadA := 0
  t1Count := 0
  t1Run := false
  sio := 0
  sioRun := false
  irqPending := 0
  pins := { p0 := 15, p1 := 15, p2 := 15, p3 := 15, p4 := 15, p5 := 15, p6 := 15, pc := 15, pd := 15, pe := 15 }
  env := []
  draws := 0
  ramEpoch := 0

end Sys2Proof.Machine
end

