-- ==== Sys2Proof/Machine/Operands.lean ====
section
/-!
DEFINITION. Every operand form: the data-memory addresses (20_memory R63 to R68), one word read and written, the
register pairs (10_state R23), the page and bank a jump keeps (46 R249, 47 R255), and the advance of the step
(00_scope R15).
-/

namespace Sys2Proof.Machine

/-- Steps (3), (4) and (6) of 00_scope R15 for an instruction of `len` bytes: `PC <- PC + len` over 14 bits
(10_state R27), `BNK <- 0`, `LSK <- 0`. A meaning reads the latched B and K from the state before. -/
def State.advance (s : State) (len : RomAddr) : State := { s with pc := s.pc + len, bnk := false, lsk := false }

/-- The word at a data-memory address. -/
def State.readWord (s : State) (a : RamAddr) : Nibble := ramWord s.ram s.ramEpoch a

/-- `MemWrite(a, 1, [v])`. -/
def State.writeWord (s : State) (a : RamAddr) (v : Nibble) : State := { s with ram := storeRam s.ram a v }

/-- `ea_HL = {B, DPH, DPL}` (20_memory R64). -/
def State.eaHl (s : State) : RamAddr := BitVec.ofBool s.bnk ++ pairOf s.dph s.dpl

/-- `ea_XY = {B, DPX, DPY}` (20_memory R65). -/
def State.eaXy (s : State) : RamAddr := BitVec.ofBool s.bnk ++ pairOf s.dpx s.dpy

/-- `ea_dir(i8) = {B, i8}` (20_memory R66). -/
def State.eaDir (s : State) (i8 : Byte) : RamAddr := BitVec.ofBool s.bnk ++ i8

/-- `ea_reg` of LA and XA (43_load_store R205). -/
def State.eaReg (s : State) : Ptr → RamAddr
  | .hl => s.eaHl
  | .xy => s.eaXy

/-- `M (HL)`. -/
def State.mHl (s : State) : Nibble := s.readWord s.eaHl

/-- `DPlow`: DPL for HL, DPY for XY (43_load_store R205). -/
def State.dpLow (s : State) : Ptr → Nibble
  | .hl => s.dpl
  | .xy => s.dpy

/-- `DPlow <- p`. -/
def State.setDpLow (s : State) (r : Ptr) (p : Nibble) : State :=
  match r with
  | .hl => { s with dpl := p }
  | .xy => { s with dpy := p }

/-- `x[HL]` (10_state R23). -/
def State.hl (s : State) : Byte := pairOf s.dph s.dpl

/-- `x[XY]` (10_state R23). -/
def State.xy (s : State) : Byte := pairOf s.dpx s.dpy

/-- `x[AE] = {E, AC}` (10_state R23). -/
def State.ae (s : State) : Byte := pairOf s.e s.ac

/-- A data-memory address in the stack's bank (20_memory R68). -/
def stackAddr (a : Byte) : RamAddr := Params.stackBank ++ a

/-- The page bits PC13 to PC8 that a same-page operation keeps: those of `PB` (46 R249, 47 R255). Where the instruction's
own address and NPC are in one page the two values of PAGE_BASE agree; at a page end (93 U5) the page is that of the
uninterpreted parameter (log 20). -/
def keptPage (own npc : RomAddr) : BitVec 6 :=
  if own.extractLsb' 8 6 = npc.extractLsb' 8 6 then npc.extractLsb' 8 6
  else match Config.pageBase with
    | .next => npc.extractLsb' 8 6
    | .own => own.extractLsb' 8 6

/-- The bank bits PC13, PC12 that JMP keeps: those of `PB` (46 R240, R249), as `keptPage`. -/
def keptBank (own npc : RomAddr) : BitVec 2 :=
  if own.extractLsb' 12 2 = npc.extractLsb' 12 2 then npc.extractLsb' 12 2
  else match Config.pageBase with
    | .next => npc.extractLsb' 12 2
    | .own => own.extractLsb' 12 2

/-- The ROM address of RTBL and RTBLP, one-byte instructions: `{PB[13:8], E, AC}` (43_load_store R203, R204). -/
def State.tableAddr (s : State) : RomAddr := keptPage s.pc (s.pc + 1) ++ s.ae

end Sys2Proof.Machine
end

