-- ==== Sys2Proof/Machine/Ports.lean ====
section
/-!
DEFINITION. Port space (20_memory R69 to R71, 48_io R270): the port numbers, what a read returns, what a write changes,
the read-modify-write, and the internal control registers of port bank 1; and, as an observable of the state, what each
output pin shows (20_memory R71, 60_exceptions R343, R344).
-/

namespace Sys2Proof.Machine

/-- The port a 4-bit number names (20_memory R69; PC, PD, PE by 92 D11, log 23). 7 to 0BH and 0FH name none (93 U13). -/
def portOf (n : Nibble) : Option Port :=
  match n.toNat with
  | 0 => some .p0 | 1 => some .p1 | 2 => some .p2 | 3 => some .p3 | 4 => some .p4 | 5 => some .p5 | 6 => some .p6
  | 12 => some .pc | 13 => some .pd | 14 => some .pe
  | _ => none

/-- The bits of a port that have an output pin (20_memory R69; 48_io R270). -/
def outputBits : Port → Nibble
  | .p3 => 7
  | .pc => 12
  | .pd => 0
  | .pe => 0
  | _ => 15

/-- The level outside drives on a port's pins. -/
def pinLevels (pins : Pins) : Port → Nibble
  | .p0 => pins.p0 | .p1 => pins.p1 | .p2 => pins.p2 | .p3 => pins.p3 | .p4 => pins.p4 | .p5 => pins.p5 | .p6 => pins.p6
  | .pc => pins.pc | .pd => pins.pd | .pe => pins.pe

/-- PL[p]; the input-only ports have none. -/
def latchOf (l : Latches) : Port → Nibble
  | .p0 => l.p0 | .p1 => l.p1 | .p2 => l.p2 | .p3 => l.p3 | .p4 => l.p4 | .p5 => l.p5 | .p6 => l.p6 | .pc => l.pc
  | .pd => 0 | .pe => 0

/-- `PL[p] <- v`, bits without an output pin ignored (20_memory R71, 48_io R270). -/
def latchWrite (l : Latches) (p : Port) (v : Nibble) : Latches :=
  let v' := v &&& outputBits p
  match p with
  | .p0 => { l with p0 := v' } | .p1 => { l with p1 := v' } | .p2 => { l with p2 := v' } | .p3 => { l with p3 := v' }
  | .p4 => { l with p4 := v' } | .p5 => { l with p5 := v' } | .p6 => { l with p6 := v' } | .pc => { l with pc := v' }
  | .pd => l | .pe => l

/-- The pins of a port that have the CMOS output type, which "cannot be used as input pins" (20_memory R71, 93 U20). -/
def cmosPins (rom : Memory 8) (p : Port) : Nibble :=
  match p with
  | .p2 | .p3 | .p6 | .pc => outputTypePu rom p
  | _ => 0

/-- The pins of a port that a latch at 0 holds low; the input-only pins have no latch (48_io R270, 20_memory R71). -/
def heldLow (s : State) (p : Port) : Nibble := outputBits p &&& ~~~latchOf s.latch p

/-- The levels on the pins of a port: what outside drives, a pin whose output latch is 0 being held low
(48_io R270, 20_memory R71). -/
def padLevels (s : State) (p : Port) : Nibble := pinLevels s.pins p &&& ~~~heldLow s p

/-- The inverter circuit of a pair. -/
def inverterCircuit (v : Inverters) : InverterPair → InverterCircuit
  | .p40p41 => v.p40p41
  | .p42p43 => v.p42p43
  | .pd0pd1 => v.pd0pd1
  | .pd2pd3 => v.pd2pd3

/-- Whether the port I/O circuit of a pair's pins is disabled, which only the inverter option makes possible
(60_exceptions R341; log 46). -/
def portDisabled (s : State) (k : InverterPair) : Bool := inverterFitted s.rom k && (inverterCircuit s.inverters k).portDisabled

/-- The pins of a port whose I/O circuit is disabled: both of a pair (60_exceptions R341). -/
def disabledPins (s : State) (p : Port) : Nibble :=
  match p with
  | .p4 => (if portDisabled s .p42p43 then 3#2 else 0#2) ++ (if portDisabled s .p40p41 then 3#2 else 0#2)
  | .pd => (if portDisabled s .pd2pd3 then 3#2 else 0#2) ++ (if portDisabled s .pd0pd1 then 3#2 else 0#2)
  | _ => 0

/-- The pins of a port that read a free value: those of the CMOS output type (93 U20) and those whose I/O circuit is
disabled (60_exceptions R341), but for a latch at 0, which reads 0 (48_io R270, 20_memory R71). That U20 and the disabled
circuit leave that 0 standing is DEDUCED (logs 24, 46). -/
def undecidedPins (s : State) (p : Port) : Nibble := (cmosPins s.rom p ||| disabledPins s p) &&& ~~~heldLow s p

/-- `PortRead(0, p)`: the levels on the pins, 0 where an output pin's latch is 0 (48_io R270); otherwise a pin of the CMOS
output type, which "cannot be used as an input", and a pin whose I/O circuit is disabled read any value, whatever drives
them (93 U20, 60_exceptions R341; logs 24, 46). -/
def pinRead (s : State) (p : Port) : Nibble :=
  let free := undecidedPins s p
  if free = 0 then padLevels s p
  else (padLevels s p &&& ~~~free) ||| (Config.freePinRead s.draws p &&& free)

/-- `PortRead(B, n)` with the latched bank bit: none where `n` names no port; in bank 1 a free value (20_memory R70). -/
def portRead (s : State) (n : Nibble) : Option Nibble :=
  if s.bnk then some (Config.freeControl s.draws n) else (portOf n).map (pinRead s)

/-- `RmwRead(B, n)` (48_io R270; PORT_RMW_SOURCE). -/
def rmwRead (src : Config.RmwSource) (s : State) (n : Nibble) : Option Nibble :=
  if s.bnk then some (Config.freeControl s.draws n)
  else match src with
    | .pin => (portOf n).map (pinRead s)
    | .latch => (portOf n).map (latchOf s.latch)

/-- `advance` for an instruction that may read a control register: the free value is spent. -/
def State.advanceIo (s : State) (len : RomAddr) : State :=
  { s.advance len with draws := s.draws + (if s.bnk then 1 else 0) }

/-- `PortWrite(b, n, v)` on `t`: the output latch, or in bank 1 the recorded control register (20_memory R70, R71). A
number with no port changes nothing here; `outputTo` faults first. -/
def State.portWrite (t : State) (b : Bool) (n v : Nibble) : State :=
  if b then { t with ctl := t.ctl.set n.toNat v n.isLt }
  else match portOf n with
    | some p => { t with latch := latchWrite t.latch p v }
    | none => t

/-- An instruction that reads port `n` and goes on with the value; a number with no port is `noPort` (93 U13). -/
def inputThen (s : State) (n : Nibble) (k : Nibble → State) : Result :=
  match portRead s n with
  | some v => .next (k v)
  | none => .fault (.noPort n)

/-- An instruction of `len` bytes that writes `v` to port `n`. -/
def outputTo (s : State) (len : RomAddr) (n v : Nibble) : Result :=
  if s.bnk || (portOf n).isSome then .next ((s.advance len).portWrite s.bnk n v) else .fault (.noPort n)

/-- A read-modify-write of port `n`; `k` gives the flags from the value written (48_io R280 to R283). -/
def modifyPort (s : State) (len : RomAddr) (n : Nibble) (g : Nibble → Nibble) (k : Nibble → State → State) : Result :=
  match rmwRead Params.rmwSource s n with
  | some old => .next (k (g old) ((s.advanceIo len).portWrite s.bnk n (g old)))
  | none => .fault (.noPort n)

/-- The level on pin P33/HOLD (20_memory R69; P33 is input only). -/
def holdPin (s : State) : Bool := s.pins.p3.getLsbD 3

/-- What an output shows. -/
inductive Drive where
  /-- Driven low. -/
  | low
  /-- Driven high. -/
  | high
  /-- Held high by a pull-up. -/
  | pulledUp
  /-- An open-drain output that is off. -/
  | released
  /-- No output: off in a standby mode, high impedance, or a disabled circuit. -/
  | off
  /-- The signal of a device, which the spec does not describe. -/
  | device
  deriving DecidableEq, Repr

/-- What a port output shows by its latch and output type (20_memory R71). The type is the option's, but open-drain from
the moment RES is low until the types are set up again, whether or not RES resets the machine (70 R360, R362). -/
def portDrive (s : State) (p : Port) (t : BitVec 2) : Drive :=
  if !bitAt (latchOf s.latch p) t then .low
  else if !s.typesSet || !bitAt (outputTypePu s.rom p) t then .released
  else match p with
    | .p2 | .p3 | .p6 | .pc => .high
    | _ => .pulledUp

/-- What pin `t` of port `p` carries (20_memory R69): P21/SO0, P22/SCK0, P31/POUT0, P32/POUT1, P60/ML and P62/DT are shared
with a device's output, ML only where the option enables it (R77), and P31 and P32 support 3-state outputs
(60_exceptions R337 to R341). -/
def sharedUse (s : State) (p : Port) (t : BitVec 2) : PinUse :=
  let v := s.shared
  let deviceIf := fun b => if b then PinUse.device else .port
  match p, t.toNat with
  | .p2, 1 => deviceIf v.so0
  | .p2, 2 => deviceIf v.sck0
  | .p3, 1 => v.p31
  | .p3, 2 => v.p32
  | .p6, 0 => deviceIf (v.ml && melodyEnabled s.rom)
  | .p6, 2 => deviceIf v.dt
  | _, _ => .port

/-- What the circuit of an output pin shows outside the standby modes: nothing where it is disabled, the device's signal
where that is selected, for a 3-state output its latch driven or nothing, else the port output. A 3-state output drives no
high level while the outputs are open-drain (70 R362). How a device's signal combines with the latch is not in the source:
it replaces it (DESIGN CHOICE, log 48), as a driven 3-state output does the output type (DESIGN CHOICE, log 44). -/
def outputDrive (s : State) (p : Port) (t : BitVec 2) : Drive :=
  if bitAt (disabledPins s p) t then .off
  else match sharedUse s p t with
    | .port => portDrive s p t
    | .device => .device
    | .driven => if !bitAt (latchOf s.latch p) t then .low else if s.typesSet then .high else .released
    | .highImpedance => .off

/-- What the output on pin `t` of port `p` shows in the machine's mode, none where the pin has none
(60_exceptions R343: in halt mode P2 "Output off", the other ports retained; R344: in hold mode every port "Output off";
log 44). An inverter circuit on the pin is `inverterDrive`'s matter. -/
def pinDrive (s : State) (p : Port) (t : BitVec 2) : Option Drive :=
  if bitAt (outputBits p) t then
    match s.mode, p with
    | .hold, _ => some .off
    | .halt, .p2 => some .off
    | _, _ => some (outputDrive s p t)
  else none

/-- The level on pin `t` of a port for the inverter circuit of pair `k`: a disabled port circuit does not hold it low. -/
def inverterPin (s : State) (k : InverterPair) (p : Port) (t : BitVec 2) : Bool :=
  bitAt (if portDisabled s k then pinLevels s.pins p else padLevels s p) t

/-- The level on the input pin of a pair, its first (60_exceptions R341). -/
def inverterInput (s : State) (k : InverterPair) : Bool :=
  match k with
  | .p40p41 => inverterPin s k .p4 0
  | .p42p43 => inverterPin s k .p4 2
  | .pd0pd1 => inverterPin s k .pd 0
  | .pd2pd3 => inverterPin s k .pd 2

/-- Whether the output of a pair's circuit is on. -/
def inverterOn (v : Inverters) (k : InverterPair) : Bool := (inverterCircuit v k).on

/-- What the inverter circuit of a pair shows on the pair's second pin, none where the option gives it no circuit: with
the output on, the complement of the input pin's level; off at reset and in hold mode (10_state R45, 60_exceptions R341,
R343, R344; log 46). -/
def inverterDrive (s : State) (k : InverterPair) : Option Drive :=
  if inverterFitted s.rom k then
    some (if inverterOn s.inverters k ∧ s.mode ≠ .hold then (if inverterInput s k then .low else .high) else .off)
  else none

end Sys2Proof.Machine
end

