-- ==== Sys2Proof/Machine/Boundary.lean ====
section
/-!
DEFINITION. What happens at an instruction boundary before an instruction runs: the environment's record for this
boundary is taken up, the running devices evolve (60_exceptions R337 to R339), and reset (70 R360, R364).
-/

namespace Sys2Proof.Machine

/-- What the environment does at this boundary; nothing is said of it once the list is used up. -/
def State.event (s : State) : EnvEvent := s.env.headD EnvEvent.quiet

/-- The pins at this boundary: as the environment's record says, else free values (20_memory R71; log 7). -/
def State.sampledPins (s : State) : Pins := s.event.pins.getD (Config.freePins s.draws)

/-- The devices and the environment at a boundary in RUN or HALT mode (60_exceptions R326, R337, R338, R339): a running
counter and a running SIO take free values, a transfer may end, requested factors become pending. The inverter
circuits and what the shared output pins carry are free values while the machine runs and are kept in halt mode (60 R341,
R343; logs 44, 46, 48). In HOLD mode the
oscillator is stopped (60_exceptions R344) and during the reset sequence everything has its reset value, so no device of
the machine changes. While RES is low the port outputs have no type but open-drain, in every mode and whatever P33/HOLD is
(70 R360, R362); once it is high, when the types of the options are back is a free value (log 47). -/
def State.boundary (s : State) : State :=
  let ev := s.event
  let t := { s with
    pins := s.sampledPins, env := s.env.tail, draws := s.draws + 1, typesSet := s.typesSet && !ev.res }
  if s.mode = .hold ∨ s.phase ≠ .out then t
  else { t with
    t0Count := if s.t0Run then Config.freeT0 s.draws else s.t0Count
    t1Count := if s.t1Run then Config.freeT1 s.draws else s.t1Count
    sio := if s.sioRun then Config.freeSio s.draws else s.sio
    sioRun := s.sioRun && !ev.sioEnd
    irqPending := s.irqPending ||| ev.raise
    typesSet := (s.typesSet || Config.freeTypesSet s.draws) && !ev.res
    inverters := if s.mode = .run then Config.freeInverters s.draws else s.inverters
    shared := if s.mode = .run then Config.freeShared s.draws else s.shared }

/-- Whether `ev` resets the machine whose state after the boundary is `t`: RES low with P33/HOLD high, in any mode
(70 R360, 60_exceptions R344), or the watchdog where the option has one and the oscillator runs (60 R347). -/
def resetTaken (ev : EnvEvent) (t : State) : Bool :=
  (ev.res && holdPin t) || (ev.watchdog && watchdogPresent t.rom && t.mode != .hold)

/-- Reset asserted (70 R360, R361): the state after reset with the port latches of this image's options, in the first
phase of the sequence. Program memory and what is outside the chip stay; data memory is retained when reset ends hold mode
(60_exceptions R345) and is unspecified anew otherwise (10_state R45). -/
def State.resetFrom (t : State) : State :=
  { State.reset with
    phase := .asserted, typesSet := false, rom := t.rom, latch := resetLatches t.rom, pins := t.pins, env := t.env, draws := t.draws + 1,
    ram := if t.mode = .hold then t.ram else [], ramEpoch := if t.mode = .hold then t.ramEpoch else t.draws }

/-- The next phase of the reset sequence at a boundary that takes no reset. RES still low, now with P33/HOLD low, keeps the
sequence before the nine cycles, which begin when RES goes high (log 47); else the nine cycles pass, in which the output
types are set up, and "only then" the program starts at 0 (70 R360). -/
def State.continueReset (t : State) (resLow : Bool) : State :=
  match resLow, t.phase with
  | _, .out => t
  | true, _ => { t with phase := .asserted }
  | false, .asserted => { t with phase := .loading }
  | false, .loading => { t with phase := .out, typesSet := true }

end Sys2Proof.Machine
end

