-- ==== Sys2Proof/Machine/Fetch.lean ====
section
/-!
DEFINITION. Fetching and decoding the instruction at PC (00_scope R15 step (2)), and placing an instruction's bytes.
-/

namespace Sys2Proof.Machine

/-- The option specification area, 3FF0H to 3FFFH (20_memory R76). -/
def inOptionArea (a : RomAddr) : Bool := 0x3FF0 ≤ a.toNat

/-- Fetch `b1` and, for its length, `b2` (00_scope R15). An instruction byte in the option area is `badPlacement`
(93 U6, 92 D28; log 21), a byte form in no row of the map `unassignedOpcode` (93 U1, U2; log 22). A second byte that would
come from the option area is `badPlacement` whether or not its pair with `b1` is in a row of the map: 60_exceptions R321
names both faults for an unassigned pair at 3FEFH and no order (DESIGN CHOICE, log 21). -/
def State.fetch (s : State) : Except Fault Instr :=
  let b1 := romByte s.rom s.pc
  let b2 := romByte s.rom (s.pc + 1)
  if inOptionArea s.pc then .error (.badPlacement s.pc)
  else if lengthOf b1 = some 2 ∧ inOptionArea (s.pc + 1) = true then .error (.badPlacement s.pc)
  else match decode [b1, b2] with
    | .error _ => .error (.unassignedOpcode s.pc b1 b2)
    | .ok (i, _) => .ok i

/-- The image with bytes placed from address `a` on. -/
def storeRomBytes (rom : Memory 8) (a : RomAddr) : List Byte → Memory 8
  | [] => rom
  | b :: rest => storeRomBytes (storeRom rom a b) (a + 1) rest

end Sys2Proof.Machine
end

