-- ==== Sys2Proof/Machine/Flags.lean ====
section
/-!
DEFINITION. Every arithmetic and flag computation the spec gives: `add4` and its uses (00_scope R19), the zero flag
(00_scope R11, 92 D1), the decrement and SUBC carries under their parameters, the rotates.
-/

namespace Sys2Proof.Machine

open Sys2Proof.Config

/-- `zf(v)`: 1 if `v` is all zeros (00_scope R11). -/
def isZero (v : Nibble) : Bool := v == 0

/-- `add4(a, b, c)`: the 4-bit sum and the carry out of bit 3 of the 5-bit sum (00_scope R19). -/
def add4 (a b : Nibble) (c : Bool) : Nibble × Bool :=
  let s : BitVec 5 := a.setWidth 5 + b.setWidth 5 + (BitVec.ofBool c).setWidth 5
  (s.extractLsb' 0 4, s.getLsbD 4)

/-- `a - b` as `add4(a, ~b, 1)`; the flag is 1 when no borrow occurred (00_scope R19). -/
def sub4 (a b : Nibble) : Nibble × Bool := add4 a (~~~b) true

/-- A decrement and the CF it leaves (40_accumulator R147; DEC_CF). -/
def dec4 (p : DecCf) (a : Nibble) : Nibble × Bool :=
  let r := sub4 a 1
  match p with
  | .notBorrow => r
  | .borrow => (r.1, !r.2)

/-- SUBC: `m - a - bin`, `bin` being CF or its complement; the flag is 1 when no borrow occurred
(42_arithmetic_logic_compare R174; SUBC_BORROW_IN). -/
def subc4 (p : SubcBorrowIn) (m a : Nibble) (cf : Bool) : Nibble × Bool :=
  let bin := match p with
    | .literal => cf
    | .complement => !cf
  add4 m (~~~a) (!bin)

/-- RAR: `({CF, AC[3:1]}, AC[0])` (40_accumulator R148). -/
def rotRight (a : Nibble) (cf : Bool) : Nibble × Bool := (BitVec.ofBool cf ++ a.extractLsb' 1 3, a.getLsbD 0)

/-- RAL: `({AC[2:0], CF}, AC[3])` (40_accumulator R149). -/
def rotLeft (a : Nibble) (cf : Bool) : Nibble × Bool := (a.extractLsb' 0 3 ++ BitVec.ofBool cf, a.getLsbD 3)

/-- The group of four user flags that holds F[n] (45_flag R236). -/
def flagGroup (f : BitVec 16) (n : Nibble) : Nibble := f.extractLsb' (4 * (n.toNat / 4)) 4

end Sys2Proof.Machine
end

