-- ==== Sys2Proof/Machine/Ops.lean ====
section
/-!
DEFINITION. The shared operations over memory and registers: two-word data, the stack (20_memory R68), interrupt entry
and the returns (60_exceptions R327 to R331, 46 R247, R248).
-/

namespace Sys2Proof.Machine

/-- The next state of a memory instruction that stores `v` at `a`. -/
def State.storeAt (s : State) (len : RomAddr) (a : RamAddr) (v : Nibble) : State := (s.advance len).writeWord a v

/-- An access to M2 (HL), "starting on an even address": with DPL odd the behaviour is undefined and the model stops
(20_memory R67, 93 U4; log 39). -/
def evenThen (s : State) (t : State) : Result := if s.dpl.getLsbD 0 then .fault (.oddM2 s.hl) else .next t

/-- A branch: `if cond then PC <- {PB[13:8], P7..P0} else PC <- NPC` (47_branch R255). -/
def State.branch (s : State) (cond : Bool) (p : Byte) : State :=
  if cond then { s.advance 2 with pc := keptPage s.pc (s.pc + 2) ++ p } else s.advance 2

/-- PUSH: M2 (SP) <- the pair, low half at SP - 1, high half at SP, then SP - 2 (46 R245, 20_memory R68). -/
def State.pushPair (s : State) (v : Byte) : State :=
  { (s.writeWord (stackAddr (s.sp - 1)) (loNib v)).writeWord (stackAddr s.sp) (hiNib v) with sp := s.sp - 2 }

/-- The pair that POP reads: M2 (SP) at SP + 2 (46 R246, 20_memory R68). -/
def State.topPair (s : State) : Byte :=
  pairOf (s.readWord (stackAddr (s.sp + 2))) (s.readWord (stackAddr (s.sp + 1)))

/-- `W = {CF, ZF, ret}`, the frame of CAL, CZP and interrupt entry (20_memory R68). -/
def State.frame (s : State) (ret : RomAddr) : BitVec 16 := BitVec.ofBool s.cf ++ BitVec.ofBool s.zf ++ ret

/-- M4 (SP) <- `{CF, ZF, ret}`, the least significant word at SP - 3, then SP - 4 (46 R242, 20_memory R68). -/
def State.pushFrame (s : State) (ret : RomAddr) : State :=
  let w := s.frame ret
  { (((s.writeWord (stackAddr (s.sp - 3)) (w.extractLsb' 0 4)).writeWord (stackAddr (s.sp - 2)) (w.extractLsb' 4 4)).writeWord
      (stackAddr (s.sp - 1)) (w.extractLsb' 8 4)).writeWord (stackAddr s.sp) (w.extractLsb' 12 4) with sp := s.sp - 4 }

/-- The frame that RT and RTI load: M4 (SP) at SP + 4 (46 R247, R248, 20_memory R68). -/
def State.topFrame (s : State) : BitVec 16 :=
  s.readWord (stackAddr (s.sp + 4)) ++ s.readWord (stackAddr (s.sp + 3))
    ++ s.readWord (stackAddr (s.sp + 2)) ++ s.readWord (stackAddr (s.sp + 1))

/-- A call from an instruction of `len` bytes: the frame holds NPC (46 R242, R243). -/
def State.call (s : State) (len target : RomAddr) : State :=
  { (s.advance len).pushFrame (s.pc + len) with pc := target }

/-- RT: `SP <- SP + 4`, then `PC <- [M4 (SP)]`; CF and ZF are not restored (46 R247). -/
def State.returnKeepFlags (s : State) : State :=
  { s.advance 1 with sp := s.sp + 4, pc := s.topFrame.extractLsb' 0 14 }

/-- What RTI leaves in MSE (60_exceptions R331; RTI_MSE). -/
def mseAfterRti (p : Config.RtiMse) (mse : Bool) : Bool :=
  match p with
  | .unchanged => mse
  | .set => true

/-- RTI: as RT, with `CF <- W[15]`, `ZF <- W[14]` (46 R248, 60_exceptions R331). -/
def State.returnFromInterrupt (s : State) : State :=
  { s.advance 1 with
    sp := s.sp + 4, pc := s.topFrame.extractLsb' 0 14, cf := s.topFrame.getLsbD 15, zf := s.topFrame.getLsbD 14,
    mse := mseAfterRti Params.rtiMse s.mse }

/-- `enabled(f) = (({EDIH, EDIL})[IRQ_BIT[f]] = 1)` (60_exceptions R327). -/
def State.factorEnabled (s : State) (f : Fin 10) : Bool := (pairOf s.edih s.edil).getLsbD (Config.irqBit f).val

/-- `cand`: the pending factors that are enabled (60_exceptions R330). -/
def State.candidates (s : State) : List (Fin 10) :=
  (List.finRange 10).filter fun f => s.irqPending.getLsbD f.val && s.factorEnabled f

/-- The member of a list of factors that IRQ_PRIORITY ranks first (60_exceptions R329). -/
def firstRanked : List (Fin 10) → Option (Fin 10)
  | [] => none
  | f :: rest =>
    match firstRanked rest with
    | none => some f
    | some g => if Config.irqRank f ≤ Config.irqRank g then some f else some g

/-- The factor accepted at this boundary, if any: MSE = 1, BNK = 0 and a candidate (60_exceptions R328, R330). -/
def State.acceptable (s : State) : Option (Fin 10) :=
  if s.mse && !s.bnk then firstRanked s.candidates else none

/-- What entry leaves in MSE (60_exceptions R330; IRQ_ENTRY_MSE). -/
def mseAfterEntry (p : Config.EntryMse) (mse : Bool) : Bool :=
  match p with
  | .clear => false
  | .unchanged => mse

/-- Interrupt entry for factor `f`, the machine's one exception (60_exceptions R330): the request is removed, the frame
`{CF, ZF, PC}` pushed as CAL does, `PC <- VEC[FACTOR_VEC[f]]`, MSE and LSK cleared, `MODE <- RUN`. -/
def State.enterInterrupt (s : State) (f : Fin 10) : State :=
  { s.pushFrame s.pc with
    irqPending := s.irqPending &&& ~~~(1#10 <<< f.val), pc := Config.vec (Config.factorVec f),
    mse := mseAfterEntry Params.entryMse s.mse, lsk := false, mode := .run }

end Sys2Proof.Machine
end

