-- ==== Sys2Proof/Machine/Accumulator.lean ====
section
/-!
DEFINITION. Accumulator manipulation (40_accumulator.md). CLA is LAI 0 (R140), DAA is ADI 6 and DAS is ADI 0AH (R141, R142).
-/

namespace Sys2Proof.Machine

/-- LAI and CLA (43_load_store R191, R140): under VSKIP = skip an instruction of the group that runs directly after another
changes no register and no flag; LSK is set in both cases. -/
def loadSkipping (p : Config.VSkip) (s : State) (i4 : Nibble) : State :=
  match p, s.lsk with
  | .skip, true => { s.advance 1 with lsk := true }
  | _, _ => { s.advance 1 with ac := i4, zf := isZero i4, lsk := true }

/-- AC <- AC + i4 with ZF and without CF (42 R173). -/
def addImmediate (s : State) (i4 : Nibble) : State :=
  let r := add4 s.ac i4 false
  { s.advance 2 with ac := r.1, zf := isZero r.1 }

/-- R140. -/
def execCla (s : State) : Result := .next (loadSkipping Params.vskip s 0)

/-- R141. -/
def execDaa (s : State) : Result := .next (addImmediate s 6)

/-- R142. -/
def execDas (s : State) : Result := .next (addImmediate s 10)

/-- R143. -/
def execClc (s : State) : Result := .next { s.advance 1 with cf := false }

/-- R144. -/
def execStc (s : State) : Result := .next { s.advance 1 with cf := true }

/-- R145. -/
def execCma (s : State) : Result := .next { s.advance 1 with ac := ~~~s.ac, zf := isZero (~~~s.ac) }

/-- R146. -/
def execIa (s : State) : Result :=
  let r := add4 s.ac 1 false
  .next { s.advance 1 with ac := r.1, cf := r.2, zf := isZero r.1 }

/-- R147. -/
def execDa (s : State) : Result :=
  let r := dec4 Params.decCf s.ac
  .next { s.advance 1 with ac := r.1, cf := r.2, zf := isZero r.1 }

/-- R148: ZF is not written. -/
def execRar (s : State) : Result :=
  let r := rotRight s.ac s.cf
  .next { s.advance 1 with ac := r.1, cf := r.2 }

/-- R149. -/
def execRal (s : State) : Result :=
  let r := rotLeft s.ac s.cf
  .next { s.advance 1 with ac := r.1, cf := r.2, zf := isZero r.1 }

/-- R150. -/
def execTae (s : State) : Result := .next { s.advance 1 with e := s.ac }

/-- R151. -/
def execTea (s : State) : Result := .next { s.advance 1 with ac := s.e, zf := isZero s.e }

/-- R152. -/
def execXae (s : State) : Result := .next { s.advance 1 with ac := s.e, e := s.ac }

end Sys2Proof.Machine
end

