-- ==== Sys2Proof/Machine/Arithmetic.lean ====
section
/-!
DEFINITION. Arithmetic, logic and comparison (42_arithmetic_logic_compare.md; common rule R184).
-/

namespace Sys2Proof.Machine

/-- AC <- AC + m + c with CF and ZF (R170, R171, R172). -/
def addToAc (s : State) (len : RomAddr) (m : Nibble) (c : Bool) : State :=
  let r := add4 s.ac m c
  { s.advance len with ac := r.1, cf := r.2, zf := isZero r.1 }

/-- AC <- r with ZF (R175, R176, R177). -/
def logicToAc (s : State) (r : Nibble) : State := { s.advance 1 with ac := r, zf := isZero r }

/-- M(HL) <- r with ZF (R178, R179). -/
def logicToM (s : State) (r : Nibble) : State := { s.storeAt 1 s.eaHl r with zf := isZero r }

/-- CF and ZF of AC - m (R180, R181). -/
def compareAc (s : State) (len : RomAddr) (m : Nibble) : State :=
  let r := sub4 s.ac m
  { s.advance len with cf := r.2, zf := isZero r.1 }

/-- R170. -/
def execAd (s : State) : Result := .next (addToAc s 1 s.mHl false)

/-- R171. -/
def execAddr (i8 : Byte) (s : State) : Result := .next (addToAc s 2 (s.readWord (s.eaDir i8)) false)

/-- R172. -/
def execAdc (s : State) : Result := .next (addToAc s 1 s.mHl s.cf)

/-- R173: CF is not written. -/
def execAdi (i4 : Nibble) (s : State) : Result := .next (addImmediate s i4)

/-- SUBC under a value of SUBC_BORROW_IN (R174). -/
def subtractFromM (p : Config.SubcBorrowIn) (s : State) : State :=
  let r := subc4 p s.mHl s.ac s.cf
  { s.advance 1 with ac := r.1, cf := r.2, zf := isZero r.1 }

/-- R174. -/
def execSubc (s : State) : Result := .next (subtractFromM Params.subcBorrowIn s)

/-- R175. -/
def execAnda (s : State) : Result := .next (logicToAc s (s.ac &&& s.mHl))

/-- R176. -/
def execOra (s : State) : Result := .next (logicToAc s (s.ac ||| s.mHl))

/-- R177: exclusive or (90_conflicts C1). -/
def execExl (s : State) : Result := .next (logicToAc s (s.ac ^^^ s.mHl))

/-- R178. -/
def execAndm (s : State) : Result := .next (logicToM s (s.ac &&& s.mHl))

/-- R179. -/
def execOrm (s : State) : Result := .next (logicToM s (s.ac ||| s.mHl))

/-- R180 (90_conflicts C7). -/
def execCm (s : State) : Result := .next (compareAc s 1 s.mHl)

/-- R181 (90_conflicts C10). -/
def execCi (i4 : Nibble) (s : State) : Result := .next (compareAc s 2 i4)

/-- R182: CF is not written. -/
def execCli (i4 : Nibble) (s : State) : Result := .next { s.advance 2 with zf := s.dpl == i4 }

/-- R183. -/
def execCmb (t2 : BitVec 2) (s : State) : Result := .next { s.advance 2 with zf := bitAt s.ac t2 == bitAt s.mHl t2 }

end Sys2Proof.Machine
end

