-- ==== Sys2Proof/Machine/Branch.lean ====
section
/-!
DEFINITION. Branches (47_branch.md; common rule R255): no flag, no register, no memory is written.
-/

namespace Sys2Proof.Machine

/-- A branch on bit `t2` of P(DPL) being `x` (R260, R261). -/
def branchOnPort (x : Bool) (t2 : BitVec 2) (p : Byte) (s : State) : Result :=
  inputThen s s.dpl fun v =>
    { s.branch (bitAt v t2 == x) p with draws := s.draws + (if s.bnk then 1 else 0) }

/-- R256. -/
def execBa (t2 : BitVec 2) (p : Byte) (s : State) : Result := .next (s.branch (bitAt s.ac t2) p)

/-- R257. -/
def execBna (t2 : BitVec 2) (p : Byte) (s : State) : Result := .next (s.branch (!bitAt s.ac t2) p)

/-- R258. -/
def execBm (t2 : BitVec 2) (p : Byte) (s : State) : Result := .next (s.branch (bitAt s.mHl t2) p)

/-- R259. -/
def execBnm (t2 : BitVec 2) (p : Byte) (s : State) : Result := .next (s.branch (!bitAt s.mHl t2) p)

/-- R260. -/
def execBp (t2 : BitVec 2) (p : Byte) (s : State) : Result := branchOnPort true t2 p s

/-- R261. -/
def execBnp (t2 : BitVec 2) (p : Byte) (s : State) : Result := branchOnPort false t2 p s

/-- R262. -/
def execBc (p : Byte) (s : State) : Result := .next (s.branch s.cf p)

/-- R263. -/
def execBnc (p : Byte) (s : State) : Result := .next (s.branch (!s.cf) p)

/-- R264. -/
def execBz (p : Byte) (s : State) : Result := .next (s.branch s.zf p)

/-- R265. -/
def execBnz (p : Byte) (s : State) : Result := .next (s.branch (!s.zf) p)

/-- R266. -/
def execBf (n4 : Nibble) (p : Byte) (s : State) : Result := .next (s.branch (s.f.getLsbD n4.toNat) p)

/-- R267. -/
def execBnf (n4 : Nibble) (p : Byte) (s : State) : Result := .next (s.branch (!s.f.getLsbD n4.toNat) p)

end Sys2Proof.Machine
end

