-- ==== Sys2Proof/Machine/Control.lean ====
section
/-!
DEFINITION. Timer, interrupt, standby, serial and other control instructions (49_system_control.md; common rule R313).
The devices' own evolution is Machine/Boundary.lean.
-/

namespace Sys2Proof.Machine

/-- R290: `{M (HL + 1), M (HL), AC}` (92 D27, log 38). Whether the counter is loaded too is not in the source; here it
keeps its value (DESIGN CHOICE, log 49). -/
def execWttm0 (s : State) : Result :=
  evenThen s { s.advance 1 with t0Reload := s.readWord (nextWord s.eaHl) ++ s.mHl ++ s.ac }

/-- R291. -/
def execWttm1 (s : State) : Result := .next { s.advance 2 with t1ReloadA := s.ae }

/-- R292: no flag. -/
def execRtim0 (s : State) : Result :=
  evenThen s
    { ((s.advance 1).writeWord s.eaHl (s.t0Count.extractLsb' 4 4)).writeWord (nextWord s.eaHl) (s.t0Count.extractLsb' 8 4) with
      ac := s.t0Count.extractLsb' 0 4 }

/-- R293: no flag. -/
def execRtim1 (s : State) : Result := .next { s.advance 2 with e := hiNib s.t1Count, ac := loNib s.t1Count }

/-- R294: whether the counter is reloaded is not in the source, so it becomes a free value. -/
def execStart0 (s : State) : Result :=
  .next { s.advance 2 with t0Run := true, t0Count := Config.freeT0 s.draws, draws := s.draws + 1 }

/-- R295: as R294. -/
def execStart1 (s : State) : Result :=
  .next { s.advance 2 with t1Run := true, t1Count := Config.freeT1 s.draws, draws := s.draws + 1 }

/-- R296: the counter keeps its value. -/
def execStop0 (s : State) : Result := .next { s.advance 2 with t0Run := false }

/-- R297: the counter keeps its value. -/
def execStop1 (s : State) : Result := .next { s.advance 2 with t1Run := false }

/-- R298. -/
def execMset (s : State) : Result := .next { s.advance 2 with mse := true }

/-- R299: ZF is not written. -/
def execMreset (s : State) : Result := .next { s.advance 2 with mse := false }

/-- R300. -/
def execEih (i4 : Nibble) (s : State) : Result := .next { s.advance 2 with edih := s.edih ||| i4 }

/-- R301. -/
def execEil (i4 : Nibble) (s : State) : Result := .next { s.advance 2 with edil := s.edil ||| i4 }

/-- R302: ZF of the group after the clear (ZF_CLEAR_OPS = word; log 14). -/
def execDih (i4 : Nibble) (s : State) : Result :=
  .next { s.advance 2 with edih := s.edih &&& ~~~i4, zf := isZero (s.edih &&& ~~~i4) }

/-- R303: as R302. -/
def execDil (i4 : Nibble) (s : State) : Result :=
  .next { s.advance 2 with edil := s.edil &&& ~~~i4, zf := isZero (s.edil &&& ~~~i4) }

/-- R304. -/
def execWtsp (s : State) : Result := .next { s.advance 2 with sp := s.ae }

/-- R305: no flag. -/
def execRsp (s : State) : Result := .next { s.advance 2 with e := hiNib s.sp, ac := loNib s.sp }

/-- R306. -/
def execHalt (s : State) : Result := .next { s.advance 2 with mode := .halt }

/-- R307: hold mode when P33/HOLD is low; with the pin high no operation (93 U19, log 33). -/
def execHold (s : State) : Result := .next { s.advance 2 with mode := if holdPin s then s.mode else .hold }

/-- R308. -/
def execStarts (s : State) : Result := .next { s.advance 2 with sioRun := true }

/-- R309: during a transfer what SIO holds after the write is a free value (93 U18, log 31). -/
def execWtsio (s : State) : Result :=
  .next { s.advance 2 with
    sio := if s.sioRun then Config.freeSio s.draws else s.ae, draws := s.draws + (if s.sioRun then 1 else 0) }

/-- R310: no flag. -/
def execRsio (s : State) : Result := .next { s.advance 2 with e := hiNib s.sio, ac := loNib s.sio }

/-- R311. -/
def execNop (s : State) : Result := .next (s.advance 1)

/-- R312: `PC <- {i2, NPC[11:0]}` (SB_MODE = immediate, log 36). Where the second byte ends a bank the rule calls SB
UNDEF(U5); running it by the same formula, with the address after it, is the model's choice (DESIGN CHOICE, log 36). -/
def execSb (i2 : BitVec 2) (s : State) : Result :=
  .next { s.advance 2 with pc := i2 ++ (s.pc + 2).extractLsb' 0 12 }

end Sys2Proof.Machine
end

