-- ==== Sys2Proof/Machine/DataPointer.lean ====
section
/-!
DEFINITION. Data pointer manipulation (44_data_pointer.md; common rule R231).
-/

namespace Sys2Proof.Machine

/-- AC <- v with ZF (R220, R223, R226, R229). -/
def transferToAc (s : State) (v : Nibble) : State := { s.advance 2 with ac := v, zf := isZero v }

/-- R210. -/
def execLdz (i4 : Nibble) (s : State) : Result := .next { s.advance 1 with dph := 0, dpl := i4 }

/-- R211. -/
def execLhi (i4 : Nibble) (s : State) : Result := .next { s.advance 2 with dph := i4 }

/-- R212. -/
def execLli (i4 : Nibble) (s : State) : Result := .next { s.advance 2 with dpl := i4 }

/-- R213. -/
def execLhli (i8 : Byte) (s : State) : Result := .next { s.advance 2 with dph := hiNib i8, dpl := loNib i8 }

/-- R214. -/
def execLxyi (i8 : Byte) (s : State) : Result := .next { s.advance 2 with dpx := hiNib i8, dpy := loNib i8 }

/-- R215. -/
def execIl (s : State) : Result := .next { s.advance 1 with dpl := s.dpl + 1, zf := isZero (s.dpl + 1) }

/-- R216. -/
def execDl (s : State) : Result := .next { s.advance 1 with dpl := s.dpl - 1, zf := isZero (s.dpl - 1) }

/-- R217. -/
def execIy (s : State) : Result := .next { s.advance 1 with dpy := s.dpy + 1, zf := isZero (s.dpy + 1) }

/-- R218. -/
def execDy (s : State) : Result := .next { s.advance 1 with dpy := s.dpy - 1, zf := isZero (s.dpy - 1) }

/-- R219. -/
def execTah (s : State) : Result := .next { s.advance 2 with dph := s.ac }

/-- R220. -/
def execTha (s : State) : Result := .next (transferToAc s s.dph)

/-- R221. -/
def execXah (s : State) : Result := .next { s.advance 1 with ac := s.dph, dph := s.ac }

/-- R222. -/
def execTal (s : State) : Result := .next { s.advance 2 with dpl := s.ac }

/-- R223. -/
def execTla (s : State) : Result := .next (transferToAc s s.dpl)

/-- R224. -/
def execXal (s : State) : Result := .next { s.advance 1 with ac := s.dpl, dpl := s.ac }

/-- R225. -/
def execTax (s : State) : Result := .next { s.advance 2 with dpx := s.ac }

/-- R226. -/
def execTxa (s : State) : Result := .next (transferToAc s s.dpx)

/-- R227. -/
def execXax (s : State) : Result := .next { s.advance 1 with ac := s.dpx, dpx := s.ac }

/-- R228. -/
def execTay (s : State) : Result := .next { s.advance 2 with dpy := s.ac }

/-- R229. -/
def execTya (s : State) : Result := .next (transferToAc s s.dpy)

/-- R230. -/
def execXay (s : State) : Result := .next { s.advance 1 with ac := s.dpy, dpy := s.ac }

end Sys2Proof.Machine
end

