-- ==== Sys2Proof/Machine/Jump.lean ====
section
/-!
DEFINITION. Jump and subroutine (46_jump_subroutine.md; common rule R249).
-/

namespace Sys2Proof.Machine

/-- R240: in the bank kept, PC12 complemented directly after BANK (90_conflicts C5; log 16). -/
def execJmp (p : BitVec 12) (s : State) : Result :=
  let bank := keptBank s.pc (s.pc + 2)
  .next { s.advance 2 with pc := (if s.bnk then bank ^^^ 1#2 else bank) ++ p }

/-- R241. -/
def execJpea (s : State) : Result := .next { s.advance 1 with pc := keptPage s.pc (s.pc + 1) ++ s.ae }

/-- R242. -/
def execCal (p : BitVec 11) (s : State) : Result := .next (s.call 2 (0#3 ++ p))

/-- R243 (90_conflicts C3, C4). -/
def execCzp (p : Nibble) (s : State) : Result := .next (s.call 1 (0#8 ++ p ++ 0#2))

/-- R244: the next instruction runs with B = 1. -/
def execBank (s : State) : Result := .next { s.advance 1 with bnk := true }

/-- R245, HL. -/
def execPushHl (s : State) : Result := .next ((s.advance 2).pushPair s.hl)

/-- R245, XY. -/
def execPushXy (s : State) : Result := .next ((s.advance 2).pushPair s.xy)

/-- R245, AE. -/
def execPushAe (s : State) : Result := .next ((s.advance 2).pushPair s.ae)

/-- R246, HL. -/
def execPopHl (s : State) : Result :=
  .next { s.advance 2 with sp := s.sp + 2, dph := hiNib s.topPair, dpl := loNib s.topPair }

/-- R246, XY. -/
def execPopXy (s : State) : Result :=
  .next { s.advance 2 with sp := s.sp + 2, dpx := hiNib s.topPair, dpy := loNib s.topPair }

/-- R246, AE: no flag. -/
def execPopAe (s : State) : Result :=
  .next { s.advance 2 with sp := s.sp + 2, e := hiNib s.topPair, ac := loNib s.topPair }

/-- R247. -/
def execRt (s : State) : Result := .next s.returnKeepFlags

/-- R248. -/
def execRti (s : State) : Result := .next s.returnFromInterrupt

end Sys2Proof.Machine
end

