-- ==== Sys2Proof/Machine/LoadStore.lean ====
section
/-!
DEFINITION. Load and store (43_load_store.md; common rule R205).
-/

namespace Sys2Proof.Machine

/-- AC <- M(a) with ZF (R192, R195). -/
def loadAc (s : State) (len : RomAddr) (a : RamAddr) : State :=
  { s.advance len with ac := s.readWord a, zf := isZero (s.readWord a) }

/-- Exchange AC and M(a), no flag (R198, R201). -/
def exchangeM (s : State) (len : RomAddr) (a : RamAddr) : State := { s.storeAt len a s.ac with ac := s.readWord a }

/-- `DPlow <- p`, ZF from the pointer (R196, R197, R199, R200). -/
def State.stepPointer (t : State) (r : Ptr) (p : Nibble) : State := { t.setDpLow r p with zf := isZero p }

/-- R190. -/
def execLae (s : State) : Result :=
  evenThen s { s.advance 1 with ac := s.mHl, e := s.readWord (nextWord s.eaHl) }

/-- R191. -/
def execLai (i4 : Nibble) (s : State) : Result := .next (loadSkipping Params.vskip s i4)

/-- R192. -/
def execLadr (i8 : Byte) (s : State) : Result := .next (loadAc s 2 (s.eaDir i8))

/-- R193. -/
def execS (s : State) : Result := .next (s.storeAt 1 s.eaHl s.ac)

/-- R194. -/
def execSae (s : State) : Result :=
  evenThen s (((s.advance 1).writeWord s.eaHl s.ac).writeWord (nextWord s.eaHl) s.e)

/-- R195. -/
def execLa (r : Ptr) (s : State) : Result := .next (loadAc s 1 (s.eaReg r))

/-- R196: ZF from the pointer, not from the data. -/
def execLaI (r : Ptr) (s : State) : Result :=
  .next ({ s.advance 1 with ac := s.readWord (s.eaReg r) }.stepPointer r (s.dpLow r + 1))

/-- R197: ZF from the pointer, not from the data. -/
def execLaD (r : Ptr) (s : State) : Result :=
  .next ({ s.advance 1 with ac := s.readWord (s.eaReg r) }.stepPointer r (s.dpLow r - 1))

/-- R198. -/
def execXa (r : Ptr) (s : State) : Result := .next (exchangeM s 1 (s.eaReg r))

/-- R199. -/
def execXaI (r : Ptr) (s : State) : Result := .next ((exchangeM s 1 (s.eaReg r)).stepPointer r (s.dpLow r + 1))

/-- R200. -/
def execXaD (r : Ptr) (s : State) : Result := .next ((exchangeM s 1 (s.eaReg r)).stepPointer r (s.dpLow r - 1))

/-- R201. -/
def execXadr (i8 : Byte) (s : State) : Result := .next (exchangeM s 2 (s.eaDir i8))

/-- R202: no flag, no vertical skip. -/
def execLeai (i8 : Byte) (s : State) : Result := .next { s.advance 2 with e := hiNib i8, ac := loNib i8 }

/-- R203. -/
def execRtbl (s : State) : Result :=
  let d := romByte s.rom s.tableAddr
  .next { s.advance 1 with e := hiNib d, ac := loNib d }

/-- R204: the I/O ports 4 and 5 whatever B is; high half to P4 (92 D24, log 38). -/
def execRtblp (s : State) : Result :=
  let d := romByte s.rom s.tableAddr
  .next (((s.advance 1).portWrite false 4 (hiNib d)).portWrite false 5 (loNib d))

end Sys2Proof.Machine
end

