-- ==== Sys2Proof/Machine/MemoryManipulation.lean ====
section
/-!
DEFINITION. Memory manipulation (41_memory_manipulation.md): read-modify-write of one word of data memory (R166).
-/

namespace Sys2Proof.Machine

/-- M(a) <- M(a) + 1 with CF and ZF (R160, R162). -/
def incrementWord (s : State) (len : RomAddr) (a : RamAddr) : State :=
  let r := add4 (s.readWord a) 1 false
  { s.storeAt len a r.1 with cf := r.2, zf := isZero r.1 }

/-- M(a) <- M(a) - 1 with CF and ZF (R161, R163; DEC_CF). -/
def decrementWord (p : Config.DecCf) (s : State) (len : RomAddr) (a : RamAddr) : State :=
  let r := dec4 p (s.readWord a)
  { s.storeAt len a r.1 with cf := r.2, zf := isZero r.1 }

/-- R160. -/
def execIm (s : State) : Result := .next (incrementWord s 1 s.eaHl)

/-- R161. -/
def execDm (s : State) : Result := .next (decrementWord Params.decCf s 1 s.eaHl)

/-- R162. -/
def execImdr (i8 : Byte) (s : State) : Result := .next (incrementWord s 2 (s.eaDir i8))

/-- R163. -/
def execDmdr (i8 : Byte) (s : State) : Result := .next (decrementWord Params.decCf s 2 (s.eaDir i8))

/-- R164: no flag. -/
def execSmb (t2 : BitVec 2) (s : State) : Result := .next (s.storeAt 1 s.eaHl (setBit s.mHl t2 true))

/-- R165: ZF of the whole word after the clear (ZF_CLEAR_OPS = word; log 14). -/
def execRmb (t2 : BitVec 2) (s : State) : Result :=
  let r := setBit s.mHl t2 false
  .next { s.storeAt 1 s.eaHl r with zf := isZero r }

end Sys2Proof.Machine
end

