-- ==== Sys2Proof/Machine/PortIo.lean ====
section
/-!
DEFINITION. I/O instructions (48_io.md; common rule R270). A port number with no port faults (93 U13); directly after
BANK the number names an internal control register (20_memory R70).
-/

namespace Sys2Proof.Machine

/-- AC <- P(n) with ZF (R271, R272, R274). -/
def inputToAc (s : State) (len : RomAddr) (n : Nibble) : Result :=
  inputThen s n fun v => { s.advanceIo len with ac := v, zf := isZero v }

/-- R271. -/
def execIp0 (s : State) : Result := inputToAc s 1 0

/-- R272. -/
def execIp (s : State) : Result := inputToAc s 1 s.dpl

/-- R273: no flag. -/
def execIpm (s : State) : Result := inputThen s s.dpl fun v => (s.advanceIo 1).writeWord s.eaHl v

/-- R274. -/
def execIpdr (i4 : Nibble) (s : State) : Result := inputToAc s 2 i4

/-- R275: no flag; P4 to E, P5 to AC. -/
def execIp45 (s : State) : Result :=
  match portRead s 4 with
  | none => .fault (.noPort 4)
  | some v4 => inputThen s 5 fun v5 => { s.advanceIo 2 with e := v4, ac := v5 }

/-- R276. -/
def execOp (s : State) : Result := outputTo s 1 s.dpl s.ac

/-- R277. -/
def execOpm (s : State) : Result := outputTo s 1 s.dpl s.mHl

/-- R278. -/
def execOpdr (i4 : Nibble) (s : State) : Result := outputTo s 2 i4 s.ac

/-- R279. -/
def execOp45 (s : State) : Result :=
  .next (((s.advance 2).portWrite s.bnk 4 s.e).portWrite s.bnk 5 s.ac)

/-- R280: no flag. -/
def execSpb (t2 : BitVec 2) (s : State) : Result := modifyPort s 1 s.dpl (setBit · t2 true) fun _ t => t

/-- R281: ZF of the value written (ZF_CLEAR_OPS = word; log 14). -/
def execRpb (t2 : BitVec 2) (s : State) : Result :=
  modifyPort s 1 s.dpl (setBit · t2 false) fun r t => { t with zf := isZero r }

/-- R282: AND (90_conflicts C2). -/
def execAndpdr (i4 p4 : Nibble) (s : State) : Result :=
  modifyPort s 2 p4 (· &&& i4) fun r t => { t with zf := isZero r }

/-- R283. -/
def execOrpdr (i4 p4 : Nibble) (s : State) : Result :=
  modifyPort s 2 p4 (· ||| i4) fun r t => { t with zf := isZero r }

end Sys2Proof.Machine
end

