-- ==== Sys2Proof/Machine/UserFlags.lean ====
section
/-!
DEFINITION. Flag manipulation (45_flag.md; common rule R237). The user flags are state of their own (FLAG_ALIAS =
separate, log 37).
-/

namespace Sys2Proof.Machine

/-- R235: no ZF. -/
def execSfb (n4 : Nibble) (s : State) : Result := .next { s.advance 1 with f := setFlagBit s.f n4 true }

/-- R236: ZF of the group of four flags after the clear (ZF_CLEAR_OPS = word; log 14). -/
def execRfb (n4 : Nibble) (s : State) : Result :=
  let f' := setFlagBit s.f n4 false
  .next { s.advance 1 with f := f', zf := isZero (flagGroup f' n4) }

end Sys2Proof.Machine
end

