-- ==== Sys2Proof/Machine/Dispatch.lean ====
section
/-! DEFINITION. exec: one arm for each constructor of Instr, each one call of that instruction's meaning. -/

namespace Sys2Proof.Machine

def exec (i : Instr) (s : State) : Host.Outcome State Fault Refusal :=
  match i with
  | .cla => Sys2Proof.Machine.execCla s
  | .daa => Sys2Proof.Machine.execDaa s
  | .das => Sys2Proof.Machine.execDas s
  | .clc => Sys2Proof.Machine.execClc s
  | .stc => Sys2Proof.Machine.execStc s
  | .cma => Sys2Proof.Machine.execCma s
  | .ia => Sys2Proof.Machine.execIa s
  | .da => Sys2Proof.Machine.execDa s
  | .rar => Sys2Proof.Machine.execRar s
  | .ral => Sys2Proof.Machine.execRal s
  | .tae => Sys2Proof.Machine.execTae s
  | .tea => Sys2Proof.Machine.execTea s
  | .xae => Sys2Proof.Machine.execXae s
  | .im => Sys2Proof.Machine.execIm s
  | .dm => Sys2Proof.Machine.execDm s
  | .imdr i8 => Sys2Proof.Machine.execImdr i8 s
  | .dmdr i8 => Sys2Proof.Machine.execDmdr i8 s
  | .smb t2 => Sys2Proof.Machine.execSmb t2 s
  | .rmb t2 => Sys2Proof.Machine.execRmb t2 s
  | .ad => Sys2Proof.Machine.execAd s
  | .addr i8 => Sys2Proof.Machine.execAddr i8 s
  | .adc => Sys2Proof.Machine.execAdc s
  | .adi i4 => Sys2Proof.Machine.execAdi i4 s
  | .subc => Sys2Proof.Machine.execSubc s
  | .anda => Sys2Proof.Machine.execAnda s
  | .ora => Sys2Proof.Machine.execOra s
  | .exl => Sys2Proof.Machine.execExl s
  | .andm => Sys2Proof.Machine.execAndm s
  | .orm => Sys2Proof.Machine.execOrm s
  | .cm => Sys2Proof.Machine.execCm s
  | .ci i4 => Sys2Proof.Machine.execCi i4 s
  | .cli i4 => Sys2Proof.Machine.execCli i4 s
  | .cmb t2 => Sys2Proof.Machine.execCmb t2 s
  | .lae => Sys2Proof.Machine.execLae s
  | .lai i4 => Sys2Proof.Machine.execLai i4 s
  | .ladr i8 => Sys2Proof.Machine.execLadr i8 s
  | .st => Sys2Proof.Machine.execS s
  | .sae => Sys2Proof.Machine.execSae s
  | .la r => Sys2Proof.Machine.execLa r s
  | .laI r => Sys2Proof.Machine.execLaI r s
  | .laD r => Sys2Proof.Machine.execLaD r s
  | .xa r => Sys2Proof.Machine.execXa r s
  | .xaI r => Sys2Proof.Machine.execXaI r s
  | .xaD r => Sys2Proof.Machine.execXaD r s
  | .xadr i8 => Sys2Proof.Machine.execXadr i8 s
  | .leai i8 => Sys2Proof.Machine.execLeai i8 s
  | .rtbl => Sys2Proof.Machine.execRtbl s
  | .rtblp => Sys2Proof.Machine.execRtblp s
  | .ldz i4 => Sys2Proof.Machine.execLdz i4 s
  | .lhi i4 => Sys2Proof.Machine.execLhi i4 s
  | .lli i4 => Sys2Proof.Machine.execLli i4 s
  | .lhli i8 => Sys2Proof.Machine.execLhli i8 s
  | .lxyi i8 => Sys2Proof.Machine.execLxyi i8 s
  | .il => Sys2Proof.Machine.execIl s
  | .dl => Sys2Proof.Machine.execDl s
  | .iy => Sys2Proof.Machine.execIy s
  | .dy => Sys2Proof.Machine.execDy s
  | .tah => Sys2Proof.Machine.execTah s
  | .tha => Sys2Proof.Machine.execTha s
  | .xah => Sys2Proof.Machine.execXah s
  | .tal => Sys2Proof.Machine.execTal s
  | .tla => Sys2Proof.Machine.execTla s
  | .xal => Sys2Proof.Machine.execXal s
  | .tax => Sys2Proof.Machine.execTax s
  | .txa => Sys2Proof.Machine.execTxa s
  | .xax => Sys2Proof.Machine.execXax s
  | .tay => Sys2Proof.Machine.execTay s
  | .tya => Sys2Proof.Machine.execTya s
  | .xay => Sys2Proof.Machine.execXay s
  | .sfb n4 => Sys2Proof.Machine.execSfb n4 s
  | .rfb n4 => Sys2Proof.Machine.execRfb n4 s
  | .jmp p => Sys2Proof.Machine.execJmp p s
  | .jpea => Sys2Proof.Machine.execJpea s
  | .cal p => Sys2Proof.Machine.execCal p s
  | .czp p => Sys2Proof.Machine.execCzp p s
  | .bank => Sys2Proof.Machine.execBank s
  | .pushHl => Sys2Proof.Machine.execPushHl s
  | .pushXy => Sys2Proof.Machine.execPushXy s
  | .pushAe => Sys2Proof.Machine.execPushAe s
  | .popHl => Sys2Proof.Machine.execPopHl s
  | .popXy => Sys2Proof.Machine.execPopXy s
  | .popAe => Sys2Proof.Machine.execPopAe s
  | .rt => Sys2Proof.Machine.execRt s
  | .rti => Sys2Proof.Machine.execRti s
  | .ba t2 p => Sys2Proof.Machine.execBa t2 p s
  | .bna t2 p => Sys2Proof.Machine.execBna t2 p s
  | .bm t2 p => Sys2Proof.Machine.execBm t2 p s
  | .bnm t2 p => Sys2Proof.Machine.execBnm t2 p s
  | .bp t2 p => Sys2Proof.Machine.execBp t2 p s
  | .bnp t2 p => Sys2Proof.Machine.execBnp t2 p s
  | .bc p => Sys2Proof.Machine.execBc p s
  | .bnc p => Sys2Proof.Machine.execBnc p s
  | .bz p => Sys2Proof.Machine.execBz p s
  | .bnz p => Sys2Proof.Machine.execBnz p s
  | .bf n4 p => Sys2Proof.Machine.execBf n4 p s
  | .bnf n4 p => Sys2Proof.Machine.execBnf n4 p s
  | .ip0 => Sys2Proof.Machine.execIp0 s
  | .ip => Sys2Proof.Machine.execIp s
  | .ipm => Sys2Proof.Machine.execIpm s
  | .ipdr i4 => Sys2Proof.Machine.execIpdr i4 s
  | .ip45 => Sys2Proof.Machine.execIp45 s
  | .op => Sys2Proof.Machine.execOp s
  | .opm => Sys2Proof.Machine.execOpm s
  | .opdr i4 => Sys2Proof.Machine.execOpdr i4 s
  | .op45 => Sys2Proof.Machine.execOp45 s
  | .spb t2 => Sys2Proof.Machine.execSpb t2 s
  | .rpb t2 => Sys2Proof.Machine.execRpb t2 s
  | .andpdr i4 p4 => Sys2Proof.Machine.execAndpdr i4 p4 s
  | .orpdr i4 p4 => Sys2Proof.Machine.execOrpdr i4 p4 s
  | .wttm0 => Sys2Proof.Machine.execWttm0 s
  | .wttm1 => Sys2Proof.Machine.execWttm1 s
  | .rtim0 => Sys2Proof.Machine.execRtim0 s
  | .rtim1 => Sys2Proof.Machine.execRtim1 s
  | .start0 => Sys2Proof.Machine.execStart0 s
  | .start1 => Sys2Proof.Machine.execStart1 s
  | .stop0 => Sys2Proof.Machine.execStop0 s
  | .stop1 => Sys2Proof.Machine.execStop1 s
  | .mset => Sys2Proof.Machine.execMset s
  | .mreset => Sys2Proof.Machine.execMreset s
  | .eih i4 => Sys2Proof.Machine.execEih i4 s
  | .eil i4 => Sys2Proof.Machine.execEil i4 s
  | .dih i4 => Sys2Proof.Machine.execDih i4 s
  | .dil i4 => Sys2Proof.Machine.execDil i4 s
  | .wtsp => Sys2Proof.Machine.execWtsp s
  | .rsp => Sys2Proof.Machine.execRsp s
  | .halt => Sys2Proof.Machine.execHalt s
  | .hold => Sys2Proof.Machine.execHold s
  | .starts => Sys2Proof.Machine.execStarts s
  | .wtsio => Sys2Proof.Machine.execWtsio s
  | .rsio => Sys2Proof.Machine.execRsio s
  | .nop => Sys2Proof.Machine.execNop s
  | .sb i2 => Sys2Proof.Machine.execSb i2 s

end Sys2Proof.Machine
end

