-- ==== Sys2Proof/Machine/Proceed.lean ====
section
/-!
DEFINITION. What a step does once its boundary is passed: reset, the reset sequence, interrupt entry, an instruction, or
nothing (00_scope R15; 60_exceptions R330, R343, R344; 70 R360).
-/

namespace Sys2Proof.Machine

/-- The step of a machine in RUN mode once no reset and no interrupt is taken: fetch, decode, execute (00_scope R15). -/
def State.runInstr (t : State) : Result :=
  match t.fetch with
  | .ok i => exec i t
  | .error r => .fault r

/-- What follows the boundary whose environment's record is `ev`: reset, else the next phase of a reset sequence (70 R360),
else interrupt entry, else by mode an instruction, the halt-release event or nothing (60_exceptions R330, R343, R344).
Reset held asserted changes nothing more. -/
def State.proceed (t : State) (ev : EnvEvent) : Result :=
  if resetTaken ev t then .next (if t.phase = .asserted then t else t.resetFrom)
  else if t.phase ≠ .out then .next (t.continueReset ev.res)
  else match t.mode with
    | .hold => .next t
    | .halt =>
      match t.acceptable with
      | some f => .next (t.enterInterrupt f)
      | none => .next (if ev.p0Release then { t with mode := .run } else t)
    | .run =>
      match t.acceptable with
      | some f => .next (t.enterInterrupt f)
      | none => t.runInstr

end Sys2Proof.Machine
end

