-- ==== Sys2Proof/Machine/Step.lean ====
section
/-!
DEFINITION. One step of the machine (00_scope R15), and the placing of an instruction where `step` fetches next.
-/

namespace Sys2Proof.Machine

/-- One step: the boundary, then what follows at it. -/
def step (s : State) : Host.Outcome State Fault Refusal := s.boundary.proceed s.event

/-- `s` with the instruction of a word of spec/opcode_table.json stored at PC, where `step` fetches next; nothing else is
changed (log 5). -/
def State.withFetchWord (s : State) (nbits w : Nat) : State :=
  { s with rom := storeRomBytes s.rom s.pc (tableBytes nbits w) }

end Sys2Proof.Machine
end

