-- ==== Sys2Proof/Safety.lean ====
section
/-!
DEFINITION. The terms claims are stated in: the invariant that every step keeps, where an instruction stops, the points
at which 93_implementation_defined would have a model refuse, and the shape of an answer.
-/

namespace Sys2Proof.Machine

/-- Latch bits with no output pin hold 0: "bits without an output pin ignored" (48_io R270, 10_state R41). -/
def latchesWf (l : Latches) : Bool := (l.p3 &&& 8#4 == 0) && (l.pc &&& 3#4 == 0)

/-- The invariant: both memories in canonical form, no latch bit without a pin, the BANK latch and the vertical-skip latch
never set together (00_scope R15), both clear in a standby mode, so that an interrupt ends halt mode (60 R343), and during
the reset sequence the machine is in RUN mode at address 0 with both latches clear and open-drain outputs (70 R360). -/
structure State.Inv (s : State) : Prop where
  ram : ramWf s.ram = true
  rom : romWf s.rom = true
  latch : latchesWf s.latch = true
  exclusive : (s.bnk && s.lsk) = false
  standby : s.mode ≠ .run → s.bnk = false ∧ s.lsk = false
  starting : s.phase ≠ .out → s.mode = .run ∧ s.pc = 0 ∧ s.bnk = false ∧ s.lsk = false ∧ s.typesSet = false

/-- The stop of a port number that outside a BANK sequence names no port (20_memory R69, 93 U13). -/
def noPortStop (s : State) (n : Nibble) : Option Fault :=
  if s.bnk = false ∧ portOf n = none then some (.noPort n) else none

/-- The stop of M2 (HL) with DPL odd (20_memory R67, 93 U4). -/
def oddStop (s : State) : Option Fault := if s.dpl.getLsbD 0 then some (.oddM2 s.hl) else none

/-- The fault an instruction stops with, if it stops. -/
def stopOf (i : Instr) (s : State) : Option Fault :=
  match i with
  | .lae | .sae | .wttm0 | .rtim0 => oddStop s
  | .ip | .ipm | .op | .opm | .spb _ | .rpb _ | .bp _ _ | .bnp _ _ => noPortStop s s.dpl
  | .ipdr n | .opdr n | .andpdr _ n | .orpdr _ n => noPortStop s n
  | _ => none

/-- The vertical-skip group, 80H to 8FH (10_state R40). -/
def inLaiGroup : Instr → Bool
  | .cla | .lai _ => true
  | _ => false

/-- The instructions for which the spec defines an effect of B (70 R370; IPM and OPM are left out, 92 D4). -/
def bankDefined : Instr → Bool
  | .jmp _ | .im | .dm | .imdr _ | .dmdr _ | .smb _ | .rmb _ | .ad | .addr _ | .adc | .subc | .anda | .ora | .exl
  | .andm | .orm | .cm | .cmb _ | .lae | .ladr _ | .st | .sae | .la _ | .laI _ | .laD _ | .xa _ | .xaI _ | .xaD _
  | .xadr _ | .bm _ _ | .bnm _ _ | .bp _ _ | .bnp _ _ | .ip0 | .ip | .ipdr _ | .ip45 | .op | .opdr _ | .op45
  | .spb _ | .rpb _ | .andpdr _ _ | .orpdr _ _ | .wttm0 | .rtim0 => true
  | _ => false

/-- The instructions that keep the page (93 U5). -/
def keepsPage : Instr → Bool
  | .ba _ _ | .bna _ _ | .bm _ _ | .bnm _ _ | .bp _ _ | .bnp _ _ | .bc _ | .bnc _ | .bz _ | .bnz _ | .bf _ _ | .bnf _ _
  | .jpea | .rtbl | .rtblp => true
  | _ => false

/-- The instruction runs at a point the spec leaves open and this model runs under the rule's default, a named choice or
an uninterpreted constant: a careful claim about a program excludes it (93 U5, U7, U11, U12, U19, U18; logs 15, 16, 20,
31, 33, 36). -/
def openPoint (i : Instr) (s : State) : Bool :=
  let npc := s.pc + BitVec.ofNat 14 i.length
  (inLaiGroup i && s.lsk) || (s.bnk && !bankDefined i)
    || (keepsPage i && s.pc.extractLsb' 8 6 != npc.extractLsb' 8 6)
    || match i with
      | .jmp _ => s.pc.extractLsb' 12 2 != npc.extractLsb' 12 2
      | .sb i2 => s.pc.extractLsb' 12 2 != npc.extractLsb' 12 2 || i2 != npc.extractLsb' 12 2
      | .hold => holdPin s
      | .wtsio => s.sioRun
      | _ => false

/-! ### Who writes what -/

/-- The instructions that write AC (10_state R20). -/
def writesAc : Instr → Bool
  | .cla | .daa | .das | .cma | .ia | .da | .rar | .ral | .tea | .xae | .ad | .addr _ | .adc | .adi _ | .subc | .anda
  | .ora | .exl | .lae | .lai _ | .ladr _ | .la _ | .laI _ | .laD _ | .xa _ | .xaI _ | .xaD _ | .xadr _ | .leai _ | .rtbl
  | .tha | .tla | .txa | .tya | .xah | .xal | .xax | .xay | .popAe | .ip0 | .ip | .ipdr _ | .ip45 | .rtim0 | .rtim1 | .rsp
  | .rsio => true
  | _ => false

/-- The instructions that write E (10_state R21). -/
def writesE : Instr → Bool
  | .tae | .xae | .lae | .leai _ | .rtbl | .popAe | .ip45 | .rtim1 | .rsp | .rsio => true
  | _ => false

/-- The instructions that write DPH (10_state R22). -/
def writesDph : Instr → Bool
  | .ldz _ | .lhi _ | .lhli _ | .tah | .xah | .popHl => true
  | _ => false

/-- The instructions that write DPL (10_state R22). -/
def writesDpl : Instr → Bool
  | .ldz _ | .lli _ | .lhli _ | .il | .dl | .tal | .xal | .popHl | .laI .hl | .laD .hl | .xaI .hl | .xaD .hl => true
  | _ => false

/-- The instructions that write DPX (10_state R22). -/
def writesDpx : Instr → Bool
  | .lxyi _ | .tax | .xax | .popXy => true
  | _ => false

/-- The instructions that write DPY (10_state R22). -/
def writesDpy : Instr → Bool
  | .lxyi _ | .iy | .dy | .tay | .xay | .popXy | .laI .xy | .laD .xy | .xaI .xy | .xaD .xy => true
  | _ => false

/-- The instructions that write CF (10_state R30). -/
def writesCf : Instr → Bool
  | .clc | .stc | .ia | .da | .rar | .ral | .im | .dm | .imdr _ | .dmdr _ | .ad | .addr _ | .adc | .subc | .cm | .ci _
  | .rti => true
  | _ => false

/-- The instructions that write ZF (10_state R31). -/
def writesZf : Instr → Bool
  | .cla | .daa | .das | .cma | .ia | .da | .ral | .tea | .im | .dm | .imdr _ | .dmdr _ | .rmb _ | .ad | .addr _ | .adc
  | .adi _ | .subc | .anda | .ora | .exl | .andm | .orm | .cm | .ci _ | .cli _ | .cmb _ | .lai _ | .ladr _ | .la _ | .laI _
  | .laD _ | .xaI _ | .xaD _ | .il | .dl | .iy | .dy | .tha | .tla | .txa | .tya | .rfb _ | .ip0 | .ip | .ipdr _ | .rpb _
  | .andpdr _ _ | .orpdr _ _ | .dih _ | .dil _ | .rti => true
  | _ => false

/-- The instructions that write PC otherwise than by going on to the next address (10_state R28). -/
def writesPc : Instr → Bool
  | .jmp _ | .jpea | .cal _ | .czp _ | .rt | .rti | .ba _ _ | .bna _ _ | .bm _ _ | .bnm _ _ | .bp _ _ | .bnp _ _ | .bc _
  | .bnc _ | .bz _ | .bnz _ | .bf _ _ | .bnf _ _ | .sb _ => true
  | _ => false

/-- The instructions that write SP (10_state R29). -/
def writesSp : Instr → Bool
  | .cal _ | .czp _ | .pushHl | .pushXy | .pushAe | .popHl | .popXy | .popAe | .rt | .rti | .wtsp => true
  | _ => false

/-- The instructions that write an output latch (10_state R41). -/
def writesLatch : Instr → Bool
  | .op | .opm | .opdr _ | .op45 | .spb _ | .rpb _ | .andpdr _ _ | .orpdr _ _ | .rtblp => true
  | _ => false

/-- The instructions that write data memory (20_memory R75). -/
def writesRam : Instr → Bool
  | .im | .dm | .imdr _ | .dmdr _ | .smb _ | .rmb _ | .andm | .orm | .st | .sae | .xa _ | .xaI _ | .xaD _ | .xadr _ | .ipm
  | .rtim0 | .cal _ | .czp _ | .pushHl | .pushXy | .pushAe => true
  | _ => false

/-! ### The shape of an answer -/

/-- What a branch from `s` answers: PC and the two latches change and nothing else; not taken it goes to PC + 2, taken to
`p` in the page kept, which is the page of the branch or of the address after it, the same one except at a page end
(47_branch R255, 93 U5). -/
def BranchAnswer (r : Result) (s : State) (cond : Bool) (p : Byte) : Prop :=
  ∃ t, r = .next t ∧ t = { s with pc := t.pc, bnk := false, lsk := false } ∧
    (cond = false → t.pc = s.pc + 2) ∧
    (cond = true → t.pc.extractLsb' 0 8 = p ∧
      (t.pc.extractLsb' 8 6 = s.pc.extractLsb' 8 6 ∨ t.pc.extractLsb' 8 6 = (s.pc + 2).extractLsb' 8 6))

/-- What an instruction that leaves memory, flags and every register but those of `s'` alone answers: `s'` itself but for
PC and the latches BNK and LSK, of which it says nothing. -/
def AnswersBut (r : Result) (s' : State) : Prop :=
  ∃ t, r = .next t ∧ t = { s' with pc := t.pc, bnk := t.bnk, lsk := t.lsk }

/-- The answer is `t'` but for data memory, whose word at every address `b` reads `f b`. -/
def AnswersWithMemory (r : Result) (t' : State) (f : RamAddr → Nibble) : Prop :=
  ∃ t, r = .next t ∧ (∀ b, t.readWord b = f b) ∧ t = { t' with ram := t.ram }

/-- The words of data memory of `s` with one of them replaced. -/
def wordsWith (s : State) (a : RamAddr) (v : Nibble) : RamAddr → Nibble := fun b => if b = a then v else s.readWord b

/-- The words of data memory of `s` with a 16-bit frame at SP - 3 to SP, least significant word first
(20_memory R68, log 18). -/
def wordsWithFrame (s : State) (w : BitVec 16) : RamAddr → Nibble := fun b =>
  if b = stackAddr s.sp then w.extractLsb' 12 4
  else if b = stackAddr (s.sp - 1) then w.extractLsb' 8 4
  else if b = stackAddr (s.sp - 2) then w.extractLsb' 4 4
  else if b = stackAddr (s.sp - 3) then w.extractLsb' 0 4
  else s.readWord b

/-- The answer is `t'` but for the output latches, where port `p` holds `v` in its bits with an output pin and every other
port holds what it held in `s`. -/
def AnswersWithPort (r : Result) (s t' : State) (p : Port) (v : Nibble) : Prop :=
  ∃ t, r = .next t ∧ (∀ q, latchOf t.latch q = if q = p then v &&& outputBits p else latchOf s.latch q) ∧
    t = { t' with latch := t.latch }

/-- `t` with AC, CF and ZF of a sum `n`: AC the low four bits, CF the carry out of bit 3, ZF whether AC is 0
(00_scope R19; logs 11, 12). -/
def State.withSum (t : State) (n : Nat) : State :=
  { t with ac := BitVec.ofNat 4 n, cf := decide (16 ≤ n), zf := decide (n % 16 = 0) }

end Sys2Proof.Machine
end

