-- ==== Sys2Proof/Certificates/Slice0/Obligations.lean ====
section
/-!
DEFINITION. The statements for the provers. A statement says in its docstring which rules it formalises and which of its
clauses are the model's or the spec's own choice, with the log entry that says so. Wherever an answer is written as a
state with fields replaced, every field not named is as before the instruction: that is the statement's frame. Data memory
is spoken of through the read of one word.
-/

open Sys2Proof Sys2Proof.Machine

/-! ### Encoding -/

/-- Decoding the bytes of a well-formed instruction gives it back with every operand, whatever follows it
(30_encoding R103 to R107; the codes of 31 mnemonics are the reconstruction ENC, log 9, and CLA, DAA, DAS, MSET, MRESET
have their words, log 41). -/
def Obligations.DecodeOfEncode : Prop :=
  ∀ (i : Instr) (rest : List Byte), i.wf = true → decode (encode i ++ rest) = .ok (i, rest)

/-- What the decoder accepts is exactly the encoding of a well-formed instruction: no byte is dropped and no code has two
readings (30_encoding R103, R105, R106, R107; logs 9, 41). -/
def Obligations.DecodedBytesAreEncoding : Prop :=
  ∀ (bytes : List Byte) (i : Instr) (rest : List Byte),
    decode bytes = .ok (i, rest) → i.wf = true ∧ bytes = encode i ++ rest

/-- A fetch with the first byte outside the option area is an unassigned opcode exactly on the bytes that the maps leave
out (30_encoding R105, R106, R107, R109, R110), for a pair only where its second byte is outside that area too: the model's
fault, log 22, under the reconstruction ENC, log 9. That the byte at PC is the first of the two is log 10; that an
unassigned pair across the edge of the option area is the other fault is the model's choice, log 21. -/
def Obligations.UnassignedBytesFault : Prop :=
  ∀ s : State, inOptionArea s.pc = false →
    let b1 := romByte s.rom s.pc
    let b2 := romByte s.rom (s.pc + 1)
    (s.fetch = .error (.unassignedOpcode s.pc b1 b2) ↔
      b1 ∈ [0x9E#8, 0x9F#8, 0xCC#8, 0xCE#8, 0xDE#8, 0xDF#8] ∨
      inOptionArea (s.pc + 1) = false ∧
        (b1 = 0xCF#8 ∧
          (0x30 ≤ b2.toNat ∧ b2.toNat < 0x60 ∨ 0x80 ≤ b2.toNat ∧ b2.toNat < 0xA0 ∨ 0xC4 ≤ b2.toNat ∧ b2.toNat < 0xD0 ∨
            b2 ∈ [0xD6#8, 0xD7#8, 0xD8#8, 0xD9#8, 0xDC#8, 0xDD#8, 0xE4#8, 0xE5#8, 0xE9#8, 0xEB#8, 0xED#8, 0xF9#8, 0xFB#8,
              0xFD#8, 0xFE#8]) ∨
        b1 = 0xCD#8 ∧
          (b2.toNat < 0x40 ∨ 0x60 ≤ b2.toNat ∧ b2.toNat < 0x80 ∨ 0xA0 ≤ b2.toNat)))

/-- Words written out from the encoding column of 30_encoding R103 decode to their instructions. -/
def Obligations.KnownWords : Prop :=
  decodeTableWord 8 0b00011000 = some .cma ∧
  decodeTableWord 8 0b00101110 = some (.rmb 2) ∧
  decodeTableWord 16 0b1100111110100101 = some (.ci 5) ∧
  decodeTableWord 8 0b01011111 = some (.xaD .xy) ∧
  decodeTableWord 8 0b01101101 = some (.ldz 13) ∧
  decodeTableWord 8 0b00110110 = some (.rfb 6) ∧
  decodeTableWord 16 0b1110101100111100 = some (.jmp 0xB3C) ∧
  decodeTableWord 16 0b0101011101010110 = some (.cal 0x756) ∧
  decodeTableWord 16 0b1001011011110000 = some (.bnm 2 0xF0) ∧
  decodeTableWord 16 0b1100010110100011 = some (.andpdr 10 3) ∧
  decodeTableWord 8 0b11001011 = some .rtim0

/-- "Number of cycles" (30_encoding R116), the number of bytes being that of the encoding. -/
def Obligations.CycleCounts : Prop :=
  ∀ i : Instr,
    (encode i).length = i.length ∧ (i.length = 1 ∨ i.length = 2) ∧ (i.cycles = 1 ∨ i.cycles = 2) ∧
    (i.cycles = 2 ↔ i.length = 2 ∨ (∃ r, i = .laI r) ∨ (∃ r, i = .laD r) ∨ (∃ r, i = .xaI r) ∨ (∃ r, i = .xaD r) ∨
      i = .rtbl ∨ i = .rtblp ∨ (∃ p, i = .czp p) ∨ i = .rt ∨ i = .rti ∨ i = .wttm0 ∨ i = .rtim0)

/-! ### Addresses and ports -/

/-- The effective addresses (20_memory R63 to R66, R68) and the advance of PC. That B is the bank is the spec's decision
(log 17), the stack's bank 0 another (log 18), the plain 14-bit increment a third (log 19). -/
def Obligations.EffectiveAddresses : Prop :=
  ∀ s : State,
    s.eaHl.toNat = 256 * s.bnk.toNat + 16 * s.dph.toNat + s.dpl.toNat ∧
    s.eaXy.toNat = 256 * s.bnk.toNat + 16 * s.dpx.toNat + s.dpy.toNat ∧
    s.eaReg .hl = s.eaHl ∧ s.eaReg .xy = s.eaXy ∧
    (∀ i8 : Byte, (s.eaDir i8).toNat = 256 * s.bnk.toNat + i8.toNat) ∧
    (∀ a : Byte, (stackAddr a).toNat = a.toNat) ∧
    (∀ len : RomAddr, s.advance len = { s with pc := s.pc + len, bnk := false, lsk := false }) ∧
    (s.dpl.getLsbD 0 = false → (nextWord s.eaHl).toNat = s.eaHl.toNat + 1)

/-- Which port a number names, and which bits have an output pin (20_memory R69; 0CH, 0DH, 0EH are the spec's decision,
log 23); which option bits select the output types, which ports have CMOS for the pull-up type, which option bits give a
pair its inverter circuit (20_memory R77, 60 R341) and which pins such a circuit disables the port circuit of; which pins
are shared with a device's output, ML only where its option bit is 1 (R77, 60 R340; that the bit's 0 disables ML is
log 48); what a bit of a port reads (48_io R270, 20_memory R71): 0 where an output pin's latch
is 0, of the CMOS output type too, else a free value on a pin of that type (93 U20, log 24) or with a disabled circuit
(log 46) and the level outside drives on the others; what an output pin shows (20_memory R71, 60 R341, R343, R344),
open-drain where the types are not set up (70 R360, R362; log 47); and what an inverter circuit shows (60 R341, R343, R344;
that its output is the complement of its input is log 46). That the pins show these is log 44, and how a 3-state output and
a device's signal take the place of the port output is the model's choice, logs 44 and 48. -/
def Obligations.PortNumbersAndPins : Prop :=
  (portOf 0 = some .p0 ∧ portOf 1 = some .p1 ∧ portOf 2 = some .p2 ∧ portOf 3 = some .p3 ∧ portOf 4 = some .p4 ∧
    portOf 5 = some .p5 ∧ portOf 6 = some .p6 ∧ portOf 0xC = some .pc ∧ portOf 0xD = some .pd ∧ portOf 0xE = some .pe) ∧
  (∀ n : Nibble, portOf n = none ↔ 7 ≤ n.toNat ∧ n.toNat ≤ 0xB ∨ n = 0xF) ∧
  (∀ (p : Port) (t : BitVec 2),
    bitAt (outputBits p) t = false ↔ p = .p3 ∧ t = 3 ∨ p = .pc ∧ (t = 0 ∨ t = 1) ∨ p = .pd ∨ p = .pe) ∧
  (∀ s : State,
    [Port.p0, .p1, .p2, .p3, .p4, .p5, .p6, .pc, .pd, .pe].map (pinLevels s.pins) =
      [s.pins.p0, s.pins.p1, s.pins.p2, s.pins.p3, s.pins.p4, s.pins.p5, s.pins.p6, s.pins.pc, s.pins.pd, s.pins.pe] ∧
    [Port.p0, .p1, .p2, .p3, .p4, .p5, .p6, .pc].map (latchOf s.latch) =
      [s.latch.p0, s.latch.p1, s.latch.p2, s.latch.p3, s.latch.p4, s.latch.p5, s.latch.p6, s.latch.pc]) ∧
  (∀ (rom : Memory 8) (p : Port) (t : BitVec 2), bitAt (outputBits p) t = true →
    bitAt (outputTypePu rom p) t =
        match p with
        | .p0 => (romByte rom 0x3FF1).getLsbD t.toNat
        | .p1 => (romByte rom 0x3FF1).getLsbD (4 + t.toNat)
        | .p2 => (romByte rom 0x3FF2).getLsbD t.toNat
        | .p3 => (romByte rom 0x3FF2).getLsbD (4 + t.toNat)
        | .p4 => (romByte rom 0x3FF3).getLsbD t.toNat
        | .p5 => (romByte rom 0x3FF3).getLsbD (4 + t.toNat)
        | .p6 => (romByte rom 0x3FF4).getLsbD t.toNat
        | .pc => (romByte rom 0x3FF7).getLsbD t.toNat
        | .pd | .pe => false) ∧
  (∀ (rom : Memory 8) (p : Port) (t : BitVec 2),
    bitAt (cmosPins rom p) t = true ↔
      (p = .p2 ∨ p = .p3 ∨ p = .p6 ∨ p = .pc) ∧ bitAt (outputBits p) t = true ∧ bitAt (outputTypePu rom p) t = true) ∧
  (∀ rom : Memory 8,
    (inverterFitted rom .p40p41 = true ↔ (romByte rom 0x3FF8).getLsbD 0 = false) ∧
    (inverterFitted rom .p42p43 = true ↔ (romByte rom 0x3FF8).getLsbD 1 = false) ∧
    (inverterFitted rom .pd0pd1 = true ↔ (romByte rom 0x3FF8).getLsbD 3 = false) ∧
    (inverterFitted rom .pd2pd3 = true ↔ (romByte rom 0x3FF8).getLsbD 4 = false)) ∧
  (∀ (s : State) (p : Port) (t : BitVec 2),
    bitAt (pinRead s p) t =
      (if bitAt (outputBits p) t = true ∧ bitAt (latchOf s.latch p) t = false then false
      else if bitAt (cmosPins s.rom p) t = true ∨ bitAt (disabledPins s p) t = true then
        bitAt (Config.freePinRead s.draws p) t
      else bitAt (pinLevels s.pins p) t) ∧
    pinDrive s p t =
      if bitAt (outputBits p) t = false then none
      else if s.mode = .hold ∨ s.mode = .halt ∧ p = .p2 then some .off
      else if bitAt (disabledPins s p) t = true ∨ sharedUse s p t = .highImpedance then some .off
      else if sharedUse s p t = .device then some .device
      else if bitAt (latchOf s.latch p) t = false then some .low
      else if sharedUse s p t = .driven then some (if s.typesSet then .high else .released)
      else if s.typesSet = false ∨ bitAt (outputTypePu s.rom p) t = false then some .released
      else if p = .p2 ∨ p = .p3 ∨ p = .p6 ∨ p = .pc then some .high
      else some .pulledUp) ∧
  (∀ s : State,
    inverterInput s .p40p41 = (bitAt s.pins.p4 0 && (bitAt s.latch.p4 0 || portDisabled s .p40p41)) ∧
    inverterInput s .p42p43 = (bitAt s.pins.p4 2 && (bitAt s.latch.p4 2 || portDisabled s .p42p43)) ∧
    inverterInput s .pd0pd1 = bitAt s.pins.pd 0 ∧ inverterInput s .pd2pd3 = bitAt s.pins.pd 2 ∧
    [InverterPair.p40p41, .p42p43, .pd0pd1, .pd2pd3].map (inverterCircuit s.inverters) =
      [s.inverters.p40p41, s.inverters.p42p43, s.inverters.pd0pd1, s.inverters.pd2pd3] ∧
    (∀ k, inverterOn s.inverters k = (inverterCircuit s.inverters k).on ∧
      portDisabled s k = (inverterFitted s.rom k && (inverterCircuit s.inverters k).portDisabled)) ∧
    (∀ (p : Port) (t : BitVec 2), bitAt (disabledPins s p) t =
      match p with
      | .p4 => if t.toNat < 2 then portDisabled s .p40p41 else portDisabled s .p42p43
      | .pd => if t.toNat < 2 then portDisabled s .pd0pd1 else portDisabled s .pd2pd3
      | _ => false)) ∧
  (∀ s : State,
    sharedUse s .p2 1 = (if s.shared.so0 then .device else .port) ∧
    sharedUse s .p2 2 = (if s.shared.sck0 then .device else .port) ∧
    sharedUse s .p3 1 = s.shared.p31 ∧ sharedUse s .p3 2 = s.shared.p32 ∧
    sharedUse s .p6 0 = (if s.shared.ml = true ∧ (romByte s.rom 0x3FF8).getLsbD 7 = true then .device else .port) ∧
    sharedUse s .p6 2 = (if s.shared.dt then .device else .port) ∧
    ∀ (p : Port) (t : BitVec 2), ¬((p = .p2 ∨ p = .p3) ∧ (t = 1 ∨ t = 2) ∨ p = .p6 ∧ (t = 0 ∨ t = 2)) →
      sharedUse s p t = .port) ∧
  (∀ (s : State) (k : InverterPair),
    inverterDrive s k =
      if inverterFitted s.rom k = false then none
      else if inverterOn s.inverters k = false ∨ s.mode = .hold then some .off
      else if inverterInput s k = true then some .low
      else some .high)

/-! ### Reset -/

/-- The state after reset where the spec gives it: PC = 0, MODE = RUN, the two latches clear, the ports that are "H", the
inverter outputs off, the options loaded (10_state R25, R45). That no pin carries a device's output or has its port circuit
disabled is the model's choice, logs 46 and 48. BNK = LSK = 0 is the spec's decision (logs 15, 16); so are
MSE, EDIH, EDIL and the request set (log 2). -/
def Obligations.ResetState : Prop :=
  State.reset.pc = 0 ∧ State.reset.mode = .run ∧ State.reset.bnk = false ∧ State.reset.lsk = false ∧
  State.reset.latch.p2 = 15 ∧ State.reset.latch.p3 &&& 7 = 7 ∧ State.reset.latch.p6 = 15 ∧
  State.reset.latch.pc &&& 12 = 12 ∧
  State.reset.phase = .out ∧ State.reset.typesSet = true ∧ (∀ k, inverterOn State.reset.inverters k = false) ∧
  (∀ k, portDisabled State.reset k = false) ∧ (∀ p t, sharedUse State.reset p t = .port) ∧
  State.reset.mse = false ∧ State.reset.edih = 0 ∧ State.reset.edil = 0 ∧ State.reset.irqPending = 0

/-- RES low with P33/HOLD high resets the machine in every mode (70 R360, R361, 60 R344, R345), and the watchdog, where
option bit 0 of 3FF0H is 1, does so in run and in halt mode (60 R347, 70 R364: the spec's reading, log 34), before any
interrupt and any instruction. PC, MODE, the inverter outputs and the port levels of the options (20_memory R77) are as the
spec says (that the shared pins carry them is log 48); program memory stays. BNK and LSK: the spec's decision, logs 15, 16; MSE, EDIH, EDIL, IRQ_PENDING: log 2; that
data memory survives a reset that ends hold mode: the spec's decision, log 33. Reset held changes nothing more; when RES is
high, a step loads the options and another starts the program, and not before (70 R360; log 47). After every step with RES
low, whether it resets or not, no port output is pulled up or driven high (70 R360, R362). That all this is taken at
instruction boundaries is log 35. -/
def Obligations.ResetOfRunning : Prop :=
  (∀ s : State,
    s.event.res = true ∧ s.sampledPins.p3.getLsbD 3 = true ∨
      s.event.watchdog = true ∧ (romByte s.rom 0x3FF0).getLsbD 0 = true ∧ s.mode ≠ .hold →
    (s.phase = .asserted → step s = .next s.boundary) ∧
    (s.phase ≠ .asserted →
      ∃ t, step s = .next t ∧ t.phase = .asserted ∧ t.typesSet = false ∧ t.pc = 0 ∧ t.mode = .run ∧ t.bnk = false ∧
        t.lsk = false ∧ t.rom = s.rom ∧ (∀ k, inverterOn t.inverters k = false) ∧
        (∀ p b, sharedUse t p b = .port) ∧
        t.latch.p0 = (if (romByte s.rom 0x3FF0).getLsbD 1 then 15 else 0) ∧
        t.latch.p1 = (if (romByte s.rom 0x3FF0).getLsbD 2 then 15 else 0) ∧
        t.latch.p4 = (if (romByte s.rom 0x3FF0).getLsbD 6 then 0 else 15) ∧
        t.latch.p5 = (if (romByte s.rom 0x3FF0).getLsbD 7 then 0 else 15) ∧
        t.latch.p2 = 15 ∧ t.latch.p3 = 7 ∧ t.latch.p6 = 15 ∧ t.latch.pc = 12 ∧
        t.mse = false ∧ t.edih = 0 ∧ t.edil = 0 ∧ t.irqPending = 0 ∧
        (s.mode = .hold → ∀ a, t.readWord a = s.readWord a))) ∧
  (∀ s : State, resetTaken s.event s.boundary = false →
    (s.event.res = false →
      (s.phase = .asserted → step s = .next { s.boundary with phase := .loading }) ∧
      (s.phase = .loading → step s = .next { s.boundary with phase := .out, typesSet := true })) ∧
    (s.event.res = true → s.phase ≠ .out → step s = .next { s.boundary with phase := .asserted })) ∧
  (∀ s t : State, s.event.res = true → step s = .next t →
    ∀ (p : Port) (b : BitVec 2), pinDrive t p b ≠ some .pulledUp ∧ pinDrive t p b ≠ some .high)

/-- "When the P33/HOLD pin is at the low level, the CPU will not be reset by a low level on the RES pin" (70 R360): out of
the reset sequence the step goes on as with RES high, from a boundary that differs in nothing but the output types
(R362). With the watchdog option 0 "there is no watchdog" (60 R347): the step is what it is without the expiry. -/
def Obligations.ResetSourcesIgnored : Prop :=
  ∀ (s : State) (ev : EnvEvent) (rest : List EnvEvent), s.env = ev :: rest →
    (s.sampledPins.p3.getLsbD 3 = false → s.phase = .out →
      step s = s.boundary.proceed { ev with res := false } ∧
      (ev.res = true →
        s.boundary = { State.boundary { s with env := { ev with res := false } :: rest } with typesSet := false })) ∧
    ((romByte s.rom 0x3FF0).getLsbD 0 = false →
      step s = step { s with env := { ev with watchdog := false } :: rest })

/-! ### The step -/

/-- The step of a running machine with no reset and no interrupt: the boundary (`State.boundary`), then `exec` of the
instruction that the bytes at PC decode to, and nothing else (00_scope R15); where the fetch answers a fault the step stops
with it (`Obligations.UnassignedBytesFault` and `Obligations.OptionAreaFetchStops` say where). That the byte at PC is the
first of the two is log 10; the environment's record that the boundary takes up is the model's own, log 8. -/
def Obligations.StepRunsDecoded : Prop :=
  ∀ s : State, s.mode = .run → s.phase = .out → resetTaken s.event s.boundary = false → s.boundary.acceptable = none →
    (∀ (i : Instr) (rest : List Byte),
      decode [romByte s.rom s.pc, romByte s.rom (s.pc + 1)] = .ok (i, rest) →
      inOptionArea s.pc = false → (i.length = 2 → inOptionArea (s.pc + 1) = false) →
      step s = exec i s.boundary ∧ s.boundary.pc = s.pc ∧ s.boundary.rom = s.rom) ∧
    (∀ r, s.fetch = .error r → step s = .fault r)

/-- A step stops with `badPlacement` exactly where the first byte, or the second byte of a code whose first byte makes it
a two-byte one (30_encoding R101), would be fetched from 3FF0H to 3FFFH (20_memory R76, 93 U6, 92 D28; log 21), also where
the pair is in no row of the map, which is the model's choice (log 21). That the byte at PC is the first of the two is
log 10; the codes are those of ENC, log 9. -/
def Obligations.OptionAreaFetchStops : Prop :=
  ∀ s : State, s.mode = .run → s.phase = .out → resetTaken s.event s.boundary = false → s.boundary.acceptable = none →
    let b1 := (romByte s.rom s.pc).toNat
    (step s = .fault (.badPlacement s.pc) ↔
      0x3FF0 ≤ s.pc.toNat ∨
      s.pc.toNat = 0x3FEF ∧
        (0x50 ≤ b1 ∧ b1 ≤ 0x57 ∨ 0x90 ≤ b1 ∧ b1 ≤ 0x9D ∨ 0xB0 ≤ b1 ∧ b1 ≤ 0xC9 ∨ b1 = 0xCD ∨ 0xCF ≤ b1 ∧ b1 ≤ 0xDD ∨
          0xE0 ≤ b1))

/-- What a boundary does to the devices and the requests (60 R326, R337, R338, R339, R341, R343, R344): a stopped timer
keeps its counter, a stopped serial register its value, a transfer ends when the environment says, requested factors become
pending, halt mode keeps the inverter circuits and what the shared pins carry; RES low takes the output types away, which are not lost otherwise
(70 R360, R362; when they are back is log 47); in hold mode and during the reset sequence nothing else of the machine
changes.
In every mode the other registers and the memories keep their values. The free values of the running devices are the
spec's decision, log 30, of the inverter circuits and the shared pins logs 44, 46, 48; hold mode log 33, the reset sequence log 47; the pins and the
environment's record are the model's own, logs 7, 8. -/
def Obligations.DevicesAtBoundary : Prop :=
  ∀ s : State,
    s.boundary = { s with
      pins := s.boundary.pins, env := s.env.tail, draws := s.draws + 1,
      t0Count := s.boundary.t0Count, t1Count := s.boundary.t1Count, sio := s.boundary.sio, sioRun := s.boundary.sioRun,
      irqPending := s.boundary.irqPending, inverters := s.boundary.inverters, shared := s.boundary.shared, typesSet := s.boundary.typesSet } ∧
    (s.event.res = true → s.boundary.typesSet = false) ∧
    (s.event.res = false → s.typesSet = true → s.boundary.typesSet = true) ∧
    (s.t0Run = false → s.boundary.t0Count = s.t0Count) ∧
    (s.t1Run = false → s.boundary.t1Count = s.t1Count) ∧
    (s.sioRun = false → s.boundary.sio = s.sio ∧ s.boundary.sioRun = false) ∧
    (s.mode = .halt → s.boundary.inverters = s.inverters ∧ s.boundary.shared = s.shared) ∧
    (s.mode ≠ .hold → s.phase = .out →
      s.boundary.irqPending = (s.irqPending ||| s.event.raise) ∧
      s.boundary.sioRun = (s.sioRun && !s.event.sioEnd)) ∧
    (s.mode = .hold ∨ s.phase ≠ .out →
      s.boundary = { s with
        pins := s.boundary.pins, env := s.env.tail, draws := s.draws + 1, typesSet := s.typesSet && !s.event.res }) ∧
    (∀ p, s.event.pins = some p → s.boundary.pins = p)

/-- After reset the invariant holds. -/
def Obligations.ResetInv : Prop := State.reset.Inv

/-- Every step keeps the invariant, from every state that has it: the canonical form of both memories, no latch bit
without a pin, the BANK latch and the vertical-skip latch never set together and both clear in a standby mode, and during
the reset sequence RUN mode, PC = 0, both latches clear and open-drain outputs. -/
def Obligations.StepKeepsInv : Prop :=
  ∀ s t : State, s.Inv → step s = .next t → t.Inv

/-- "No instruction writes it" (20_memory R61; R82): no step changes program memory, reset and interrupts included. -/
def Obligations.StepKeepsRom : Prop :=
  ∀ s t : State, step s = .next t → t.rom = s.rom

/-- Every instruction answers a next state in every state, but for the two stops of 93 U4 and U13, where it answers the
fault named for them (20_memory R67, R69; logs 23, 39). No instruction is refused. -/
def Obligations.ExecOutcomes : Prop :=
  ∀ (i : Instr) (s : State),
    (stopOf i s = none → ∃ t, exec i s = .next t) ∧ (∀ r, stopOf i s = some r → exec i s = .fault r)

/-- The BANK latch is set after BANK and after nothing else, the vertical-skip latch after LAI and CLA and after nothing
else, skipped or not (00_scope R15, 10_state R39, R40; logs 15, 16). -/
def Obligations.LatchesAfter : Prop :=
  ∀ (i : Instr) (s t : State), exec i s = .next t →
    (t.bnk = true ↔ i = .bank) ∧ (t.lsk = true ↔ i = .cla ∨ ∃ n, i = .lai n)

/-- "An instruction that does not write PC leaves PC <- NPC = PC + length" (10_state R27, R28; over all 14 bits: the
spec's decision, log 19). -/
def Obligations.PcAdvance : Prop :=
  ∀ (i : Instr) (s t : State), exec i s = .next t → writesPc i = false → t.pc = s.pc + BitVec.ofNat 14 i.length

/-- Which instructions can change the general registers: those of 10_state R20, R21, R22 and no other. -/
def Obligations.WritersOfRegisters : Prop :=
  ∀ (i : Instr) (s t : State), exec i s = .next t →
    (writesAc i = false → t.ac = s.ac) ∧ (writesE i = false → t.e = s.e) ∧
    (writesDph i = false → t.dph = s.dph) ∧ (writesDpl i = false → t.dpl = s.dpl) ∧
    (writesDpx i = false → t.dpx = s.dpx) ∧ (writesDpy i = false → t.dpy = s.dpy)

/-- Which instructions can change CF, ZF and the user flags: those of 10_state R30, R31, R32 and no other. That no store
changes a user flag rests on the spec's FLAG_ALIAS = separate, log 37. -/
def Obligations.WritersOfFlags : Prop :=
  ∀ (i : Instr) (s t : State), exec i s = .next t →
    (writesCf i = false → t.cf = s.cf) ∧ (writesZf i = false → t.zf = s.zf) ∧
    (t.f ≠ s.f → (∃ n, i = .sfb n) ∨ ∃ n, i = .rfb n)

/-- Which instructions can change anything else: SP (10_state R29), MSE, EDIH, EDIL (R33, R34; that RTI leaves MSE is
log 29), MODE (R42), the timers and the serial interface (R36 to R38; that WTTM0 leaves the counter of timer 0 alone
is the model's choice, log 49), the output latches (R41), the control registers (R35), data memory (20_memory R75);
none changes program memory, the requests or what is outside. That a port write directly after BANK changes nothing
but the control register rests on the spec's decision that control registers have no modelled effect, log 26; that
no instruction changes the inverter circuits, the output types and what the shared pins carry is logs 46, 47, 48. -/
def Obligations.WritersOfTheRest : Prop :=
  ∀ (i : Instr) (s t : State), exec i s = .next t →
    (writesSp i = false → t.sp = s.sp) ∧
    (t.mse ≠ s.mse → i = .mset ∨ i = .mreset) ∧
    (t.edih ≠ s.edih → (∃ n, i = .eih n) ∨ ∃ n, i = .dih n) ∧
    (t.edil ≠ s.edil → (∃ n, i = .eil n) ∨ ∃ n, i = .dil n) ∧
    (t.mode ≠ s.mode → i = .halt ∨ i = .hold) ∧
    (t.t0Reload ≠ s.t0Reload → i = .wttm0) ∧ (t.t1ReloadA ≠ s.t1ReloadA → i = .wttm1) ∧
    (t.t0Count ≠ s.t0Count → i = .start0) ∧ (t.t1Count ≠ s.t1Count → i = .start1) ∧
    (t.t0Run ≠ s.t0Run → i = .start0 ∨ i = .stop0) ∧ (t.t1Run ≠ s.t1Run → i = .start1 ∨ i = .stop1) ∧
    (t.sio ≠ s.sio → i = .wtsio) ∧ (t.sioRun ≠ s.sioRun → i = .starts) ∧
    (writesLatch i = false → t.latch = s.latch) ∧
    (writesLatch i = false ∨ s.bnk = false → t.ctl = s.ctl) ∧
    (writesRam i = false → t.ram = s.ram) ∧
    t.rom = s.rom ∧ t.irqPending = s.irqPending ∧ t.pins = s.pins ∧ t.env = s.env ∧ t.ramEpoch = s.ramEpoch ∧
    t.phase = s.phase ∧ t.typesSet = s.typesSet ∧ t.inverters = s.inverters ∧ t.shared = s.shared

/-! ### Accumulator, loads and transfers between registers -/

/-- CLC and STC (40_accumulator R143, R144): code, length, cycles, CF, and nothing else but PC and the latches. -/
def Obligations.CarryClearAndSet : Prop :=
  (encode .clc = [0b00011110#8] ∧ Instr.length .clc = 1 ∧ Instr.cycles .clc = 1) ∧
  (encode .stc = [0b00011111#8] ∧ Instr.length .stc = 1 ∧ Instr.cycles .stc = 1) ∧
  ∀ s : State, AnswersBut (exec .clc s) { s with cf := false } ∧ AnswersBut (exec .stc s) { s with cf := true }

/-- RAR (40_accumulator R148): code, length, cycles, the 5-bit rotation, ZF not written, and "five RARs restore AC and
CF". -/
def Obligations.RotateRight : Prop :=
  (encode .rar = [0b00010000#8] ∧ Instr.length .rar = 1 ∧ Instr.cycles .rar = 1) ∧
  (∀ s : State, AnswersBut (exec .rar s)
    { s with ac := BitVec.ofNat 4 (8 * s.cf.toNat + s.ac.toNat / 2), cf := s.ac.getLsbD 0 }) ∧
  (∀ s t1 t2 t3 t4 t5 : State, exec .rar s = .next t1 → exec .rar t1 = .next t2 → exec .rar t2 = .next t3 →
    exec .rar t3 = .next t4 → exec .rar t4 = .next t5 → t5.ac = s.ac ∧ t5.cf = s.cf)

/-- The transfers and exchanges that write no flag: TAE, XAE (40_accumulator R150, R152), TAH, XAH, TAL, XAL, TAX, XAX,
TAY, XAY (44_data_pointer R219, R221, R222, R224, R225, R227, R228, R230): code, length, cycles, the register written. -/
def Obligations.TransfersWithoutFlags : Prop :=
  (encode .tae = [0b01000101#8] ∧ encode .xae = [0b01000100#8] ∧ encode .xah = [0b01000000#8] ∧
    encode .xal = [0b01000001#8] ∧ encode .xax = [0b01000010#8] ∧ encode .xay = [0b01000011#8] ∧
    encode .tah = [0b11001111#8, 0b11110000#8] ∧ encode .tal = [0b11001111#8, 0b11110001#8] ∧
    encode .tax = [0b11001111#8, 0b11110010#8] ∧ encode .tay = [0b11001111#8, 0b11110011#8]) ∧
  (∀ i ∈ [Instr.tae, .xae, .xah, .xal, .xax, .xay], i.length = 1 ∧ i.cycles = 1) ∧
  (∀ i ∈ [Instr.tah, .tal, .tax, .tay], i.length = 2 ∧ i.cycles = 2) ∧
  ∀ s : State,
    AnswersBut (exec .tae s) { s with e := s.ac } ∧
    AnswersBut (exec .xae s) { s with ac := s.e, e := s.ac } ∧
    AnswersBut (exec .tah s) { s with dph := s.ac } ∧
    AnswersBut (exec .xah s) { s with ac := s.dph, dph := s.ac } ∧
    AnswersBut (exec .tal s) { s with dpl := s.ac } ∧
    AnswersBut (exec .xal s) { s with ac := s.dpl, dpl := s.ac } ∧
    AnswersBut (exec .tax s) { s with dpx := s.ac } ∧
    AnswersBut (exec .xax s) { s with ac := s.dpx, dpx := s.ac } ∧
    AnswersBut (exec .tay s) { s with dpy := s.ac } ∧
    AnswersBut (exec .xay s) { s with ac := s.dpy, dpy := s.ac }

/-- LEAI (43_load_store R202), LDZ (44_data_pointer R210), LXYI (R214), SFB (45_flag R235): code, length, cycles, the
register written and no flag but the one SFB sets; LEAI and LDZ are outside the LAI group and run whatever LSK is. -/
def Obligations.ImmediateLoads : Prop :=
  (∀ i8 : Byte, encode (.leai i8) = [0b11000110#8, i8] ∧ Instr.length (.leai i8) = 2 ∧ Instr.cycles (.leai i8) = 2) ∧
  (∀ i4 : Nibble, (encode (.ldz i4)).map (·.toNat) = [96 + i4.toNat] ∧ Instr.length (.ldz i4) = 1 ∧
    Instr.cycles (.ldz i4) = 1) ∧
  (∀ i8 : Byte, encode (.lxyi i8) = [0b11000000#8, i8] ∧ Instr.length (.lxyi i8) = 2 ∧ Instr.cycles (.lxyi i8) = 2) ∧
  (∀ n4 : Nibble, (encode (.sfb n4)).map (·.toNat) = [112 + n4.toNat] ∧ Instr.length (.sfb n4) = 1 ∧
    Instr.cycles (.sfb n4) = 1) ∧
  (∀ i8 : Byte, inLaiGroup (.leai i8) = false) ∧ (∀ i4 : Nibble, inLaiGroup (.ldz i4) = false) ∧
  ∀ s : State,
    (∀ i8 : Byte, AnswersBut (exec (.leai i8) s) { s with e := i8.extractLsb' 4 4, ac := i8.extractLsb' 0 4 }) ∧
    (∀ i4 : Nibble, AnswersBut (exec (.ldz i4) s) { s with dph := 0, dpl := i4 }) ∧
    (∀ i8 : Byte, AnswersBut (exec (.lxyi i8) s) { s with dpx := i8.extractLsb' 4 4, dpy := i8.extractLsb' 0 4 }) ∧
    (∀ n4 : Nibble, AnswersBut (exec (.sfb n4) s) { s with f := s.f ||| (1#16 <<< n4.toNat) })

/-- LHI, LLI, LHLI (44_data_pointer R211, R212, R213): the half loaded and no flag. PC as log 19. -/
def Obligations.PointerLoads : Prop :=
  ∀ s : State,
    (∀ i4 : Nibble, exec (.lhi i4) s = .next { s.advance 2 with dph := i4 }) ∧
    (∀ i4 : Nibble, exec (.lli i4) s = .next { s.advance 2 with dpl := i4 }) ∧
    (∀ i8 : Byte, exec (.lhli i8) s = .next { s.advance 2 with dph := i8.extractLsb' 4 4, dpl := i8.extractLsb' 0 4 })

/-- TEA, THA, TLA, TXA, TYA (40_accumulator R151, 44_data_pointer R220, R223, R226, R229): AC and ZF of what is
transferred, which is the spec's reading of "Zero flag" (log 11). -/
def Obligations.TransfersIntoAc : Prop :=
  ∀ s : State,
    exec .tea s = .next { s.advance 1 with ac := s.e, zf := decide (s.e.toNat = 0) } ∧
    exec .tha s = .next { s.advance 2 with ac := s.dph, zf := decide (s.dph.toNat = 0) } ∧
    exec .tla s = .next { s.advance 2 with ac := s.dpl, zf := decide (s.dpl.toNat = 0) } ∧
    exec .txa s = .next { s.advance 2 with ac := s.dpx, zf := decide (s.dpx.toNat = 0) } ∧
    exec .tya s = .next { s.advance 2 with ac := s.dpy, zf := decide (s.dpy.toNat = 0) }

/-- IL, DL, IY, DY (44_data_pointer R215 to R218): four bits modulo 16, no carry into the other half, CF not written,
ZF of the new half (log 11). -/
def Obligations.PointerSteps : Prop :=
  ∀ s : State,
    exec .il s = .next { s.advance 1 with
      dpl := BitVec.ofNat 4 (s.dpl.toNat + 1), zf := decide (s.dpl.toNat = 15) } ∧
    exec .dl s = .next { s.advance 1 with
      dpl := BitVec.ofNat 4 (s.dpl.toNat + 15), zf := decide (s.dpl.toNat = 1) } ∧
    exec .iy s = .next { s.advance 1 with
      dpy := BitVec.ofNat 4 (s.dpy.toNat + 1), zf := decide (s.dpy.toNat = 15) } ∧
    exec .dy s = .next { s.advance 1 with
      dpy := BitVec.ofNat 4 (s.dpy.toNat + 15), zf := decide (s.dpy.toNat = 1) }

/-- LAI and CLA (43_load_store R191, 40_accumulator R140): the load with ZF (log 11); directly after another of the group
nothing but PC changes, the spec's own reading of "vertical skip" (VSKIP = skip, log 15), and LSK is set either way. -/
def Obligations.LoadImmediateWithSkip : Prop :=
  ∀ (s : State) (i4 : Nibble),
    (s.lsk = false →
      exec (.lai i4) s = .next { s with
        pc := s.pc + 1, bnk := false, lsk := true, ac := i4, zf := decide (i4.toNat = 0) } ∧
      exec .cla s = .next { s with pc := s.pc + 1, bnk := false, lsk := true, ac := 0, zf := true }) ∧
    (s.lsk = true →
      exec (.lai i4) s = .next { s with pc := s.pc + 1, bnk := false, lsk := true } ∧
      exec .cla s = .next { s with pc := s.pc + 1, bnk := false, lsk := true })

/-! ### Arithmetic, logic and comparison -/

/-- CMA, RAL, ANDA, ORA, EXL (40_accumulator R145, R149, 42 R175, R176, R177): AC, CF only by RAL, ZF of the result
(log 11): for ORA "only when both AC and the word are 0", for EXL when they are equal. -/
def Obligations.LogicIntoAc : Prop :=
  ∀ s : State,
    exec .cma s = .next { s.advance 1 with ac := BitVec.ofNat 4 (15 - s.ac.toNat), zf := decide (s.ac.toNat = 15) } ∧
    exec .ral s = .next { s.advance 1 with
      ac := BitVec.ofNat 4 (2 * s.ac.toNat + s.cf.toNat), cf := decide (8 ≤ s.ac.toNat),
      zf := decide ((2 * s.ac.toNat + s.cf.toNat) % 16 = 0) } ∧
    exec .anda s = .next { s.advance 1 with
      ac := s.ac &&& s.readWord s.eaHl, zf := decide ((s.ac &&& s.readWord s.eaHl).toNat = 0) } ∧
    exec .ora s = .next { s.advance 1 with
      ac := s.ac ||| s.readWord s.eaHl, zf := decide (s.ac.toNat = 0 ∧ (s.readWord s.eaHl).toNat = 0) } ∧
    exec .exl s = .next { s.advance 1 with
      ac := s.ac ^^^ s.readWord s.eaHl, zf := decide (s.ac = s.readWord s.eaHl) }

/-- IA, AD, ADDR, ADC (40_accumulator R146, 42 R170, R171, R172): AC, CF the carry out of bit 3, ZF of the sum; ADI, DAA,
DAS (42 R173, 40_accumulator R141, R142): AC and ZF, CF not written (logs 11, 12). -/
def Obligations.Additions : Prop :=
  ∀ s : State,
    exec .ia s = .next ((s.advance 1).withSum (s.ac.toNat + 1)) ∧
    exec .ad s = .next ((s.advance 1).withSum (s.ac.toNat + (s.readWord s.eaHl).toNat)) ∧
    exec .adc s = .next ((s.advance 1).withSum (s.ac.toNat + (s.readWord s.eaHl).toNat + s.cf.toNat)) ∧
    (∀ i8, exec (.addr i8) s = .next ((s.advance 2).withSum (s.ac.toNat + (s.readWord (s.eaDir i8)).toNat))) ∧
    (∀ i4, exec (.adi i4) s = .next { (s.advance 2).withSum (s.ac.toNat + i4.toNat) with cf := s.cf }) ∧
    exec .daa s = .next { (s.advance 2).withSum (s.ac.toNat + 6) with cf := s.cf } ∧
    exec .das s = .next { (s.advance 2).withSum (s.ac.toNat + 10) with cf := s.cf }

/-- DA (40_accumulator R147; CF = 1 when no borrow, DEC_CF = not_borrow, log 12) and SUBC (42 R174; CF subtracted as
printed, SUBC_BORROW_IN = literal, log 13), with what SUBC does under the other value of the parameter; ZF of the
difference (log 11). -/
def Obligations.Subtractions : Prop :=
  ∀ s : State,
    let m := (s.readWord s.eaHl).toNat
    let a := s.ac.toNat
    exec .da s = .next { s.advance 1 with
      ac := BitVec.ofNat 4 (a + 15), cf := decide (1 ≤ a), zf := decide (a = 1) } ∧
    exec .subc s = .next (subtractFromM .literal s) ∧
    (∀ p : Config.SubcBorrowIn,
      let b := if p = .literal then s.cf.toNat else 1 - s.cf.toNat
      subtractFromM p s = { s.advance 1 with
        ac := BitVec.ofNat 4 (m + 32 - a - b), cf := decide (a + b ≤ m), zf := decide ((m + 32 - a - b) % 16 = 0) })

/-- IM, IMDR (41 R160, R162): the word plus 1, CF the carry; DM, DMDR (R161, R163): the word minus 1, CF = 1 when no
borrow (DEC_CF = not_borrow); ZF of the word stored (logs 11, 12). Only the addressed word of memory changes. -/
def Obligations.MemorySteps : Prop :=
  ∀ (s : State) (i8 : Byte),
    let m := (s.readWord s.eaHl).toNat
    let d := (s.readWord (s.eaDir i8)).toNat
    AnswersWithMemory (exec .im s) { s.advance 1 with cf := decide (m = 15), zf := decide (m = 15) }
      (wordsWith s s.eaHl (BitVec.ofNat 4 (m + 1))) ∧
    AnswersWithMemory (exec .dm s) { s.advance 1 with cf := decide (1 ≤ m), zf := decide (m = 1) }
      (wordsWith s s.eaHl (BitVec.ofNat 4 (m + 15))) ∧
    AnswersWithMemory (exec (.imdr i8) s) { s.advance 2 with cf := decide (d = 15), zf := decide (d = 15) }
      (wordsWith s (s.eaDir i8) (BitVec.ofNat 4 (d + 1))) ∧
    AnswersWithMemory (exec (.dmdr i8) s) { s.advance 2 with cf := decide (1 ≤ d), zf := decide (d = 1) }
      (wordsWith s (s.eaDir i8) (BitVec.ofNat 4 (d + 15)))

/-- SMB, RMB (41 R164, R165), ANDM, ORM (42 R178, R179): the word at HL, every other word as before; SMB
writes no flag, RMB, ANDM and ORM write ZF of the word stored (for RMB the default ZF_CLEAR_OPS = word, log 14; log 11). -/
def Obligations.LogicIntoMemory : Prop :=
  ∀ (s : State) (t2 : BitVec 2),
    let m := s.readWord s.eaHl
    AnswersWithMemory (exec (.smb t2) s) (s.advance 1) (wordsWith s s.eaHl (m ||| (1#4 <<< t2.toNat))) ∧
    AnswersWithMemory (exec (.rmb t2) s) { s.advance 1 with zf := decide ((m &&& ~~~(1#4 <<< t2.toNat)).toNat = 0) }
      (wordsWith s s.eaHl (m &&& ~~~(1#4 <<< t2.toNat))) ∧
    AnswersWithMemory (exec .andm s) { s.advance 1 with zf := decide ((s.ac &&& m).toNat = 0) }
      (wordsWith s s.eaHl (s.ac &&& m)) ∧
    AnswersWithMemory (exec .orm s) { s.advance 1 with zf := decide (s.ac.toNat = 0 ∧ m.toNat = 0) }
      (wordsWith s s.eaHl (s.ac ||| m))

/-- CI (42 R181): code, length, cycles, CF and ZF by the unsigned comparison of AC with i4; AC is not changed. -/
def Obligations.CompareImmediate : Prop :=
  (∀ i4 : Nibble, (encode (.ci i4)).map (·.toNat) = [0xCF, 0xA0 + i4.toNat] ∧ Instr.length (.ci i4) = 2 ∧
    Instr.cycles (.ci i4) = 2) ∧
  ∀ (s : State) (i4 : Nibble), AnswersBut (exec (.ci i4) s)
    { s with cf := decide (i4.toNat ≤ s.ac.toNat), zf := decide (i4 = s.ac) }

/-- CM (42 R180): CF and ZF of the unsigned comparison with the word at HL, the complemented operand read from the result
table (C7); CLI (R182): ZF only, of DPL; CMB (R183): ZF only, of one bit. No register and no word changes. -/
def Obligations.Comparisons : Prop :=
  ∀ s : State,
    exec .cm s = .next { s.advance 1 with
      cf := decide ((s.readWord s.eaHl).toNat ≤ s.ac.toNat), zf := decide (s.readWord s.eaHl = s.ac) } ∧
    (∀ i4 : Nibble, exec (.cli i4) s = .next { s.advance 2 with zf := decide (s.dpl = i4) }) ∧
    (∀ t2 : BitVec 2, exec (.cmb t2) s = .next { s.advance 2 with
      zf := decide (bitAt s.ac t2 = bitAt (s.readWord s.eaHl) t2) })

/-! ### Load and store -/

/-- LAE and SAE on an even address (43_load_store R190, R194, 20_memory R67): the word at HL and AC, the next word and E,
no flag; only the two words of memory change. -/
def Obligations.TwoWordLoadStore : Prop :=
  ∀ s : State, s.dpl.getLsbD 0 = false →
    exec .lae s = .next { s.advance 1 with ac := s.readWord s.eaHl, e := s.readWord (nextWord s.eaHl) } ∧
    AnswersWithMemory (exec .sae s) (s.advance 1)
      (fun b => if b = s.eaHl then s.ac else if b = nextWord s.eaHl then s.e else s.readWord b)

/-- LADR (43_load_store R192), LA reg (R195), LA reg,I (R196), LA reg,D (R197): AC the word read; ZF of that word (log 11)
or, with ,I and ,D, of the stepped low half of the pointer; the other half and CF as before. -/
def Obligations.LoadsFromMemory : Prop :=
  ∀ s : State,
    (∀ i8 : Byte, exec (.ladr i8) s = .next { s.advance 2 with
      ac := s.readWord (s.eaDir i8), zf := decide ((s.readWord (s.eaDir i8)).toNat = 0) }) ∧
    (∀ r : Ptr, exec (.la r) s = .next { s.advance 1 with
      ac := s.readWord (s.eaReg r), zf := decide ((s.readWord (s.eaReg r)).toNat = 0) }) ∧
    exec (.laI .hl) s = .next { s.advance 1 with
      ac := s.readWord s.eaHl, dpl := BitVec.ofNat 4 (s.dpl.toNat + 1), zf := decide (s.dpl.toNat = 15) } ∧
    exec (.laI .xy) s = .next { s.advance 1 with
      ac := s.readWord s.eaXy, dpy := BitVec.ofNat 4 (s.dpy.toNat + 1), zf := decide (s.dpy.toNat = 15) } ∧
    exec (.laD .hl) s = .next { s.advance 1 with
      ac := s.readWord s.eaHl, dpl := BitVec.ofNat 4 (s.dpl.toNat + 15), zf := decide (s.dpl.toNat = 1) } ∧
    exec (.laD .xy) s = .next { s.advance 1 with
      ac := s.readWord s.eaXy, dpy := BitVec.ofNat 4 (s.dpy.toNat + 15), zf := decide (s.dpy.toNat = 1) }

/-- S (43_load_store R193), XA reg (R198), XADR (R201): the word stored and, for the exchanges, AC the word read; no
flag. XA reg,I (R199), XA reg,D (R200): also the stepped low half of the pointer and ZF of it, the address formed before
the step. Only the addressed word of memory changes. -/
def Obligations.StoresAndExchanges : Prop :=
  ∀ s : State,
    AnswersWithMemory (exec .st s) (s.advance 1) (wordsWith s s.eaHl s.ac) ∧
    (∀ r : Ptr, AnswersWithMemory (exec (.xa r) s) { s.advance 1 with ac := s.readWord (s.eaReg r) }
      (wordsWith s (s.eaReg r) s.ac)) ∧
    (∀ i8 : Byte, AnswersWithMemory (exec (.xadr i8) s) { s.advance 2 with ac := s.readWord (s.eaDir i8) }
      (wordsWith s (s.eaDir i8) s.ac)) ∧
    AnswersWithMemory (exec (.xaI .hl) s) { s.advance 1 with
      ac := s.readWord s.eaHl, dpl := BitVec.ofNat 4 (s.dpl.toNat + 1), zf := decide (s.dpl.toNat = 15) }
      (wordsWith s s.eaHl s.ac) ∧
    AnswersWithMemory (exec (.xaI .xy) s) { s.advance 1 with
      ac := s.readWord s.eaXy, dpy := BitVec.ofNat 4 (s.dpy.toNat + 1), zf := decide (s.dpy.toNat = 15) }
      (wordsWith s s.eaXy s.ac) ∧
    AnswersWithMemory (exec (.xaD .hl) s) { s.advance 1 with
      ac := s.readWord s.eaHl, dpl := BitVec.ofNat 4 (s.dpl.toNat + 15), zf := decide (s.dpl.toNat = 1) }
      (wordsWith s s.eaHl s.ac) ∧
    AnswersWithMemory (exec (.xaD .xy) s) { s.advance 1 with
      ac := s.readWord s.eaXy, dpy := BitVec.ofNat 4 (s.dpy.toNat + 15), zf := decide (s.dpy.toNat = 1) }
      (wordsWith s s.eaXy s.ac)

/-- RTBL and RTBLP (43_load_store R203, R204): the byte of program memory at {page, E, AC}, its high half to E or P4, its
low half to AC or P5 (RTBLP's halves are the spec's decision, log 38); the page is that of the instruction or of the
address after it, the same one except at a page end (log 20). No flag; RTBLP writes the I/O ports whatever B is. -/
def Obligations.TableReads : Prop :=
  ∀ s : State, ∃ page : BitVec 6,
    (page = s.pc.extractLsb' 8 6 ∨ page = (s.pc + 1).extractLsb' 8 6) ∧
    (let d := romByte s.rom (page ++ (s.e ++ s.ac))
     exec .rtbl s = .next { s.advance 1 with e := d.extractLsb' 4 4, ac := d.extractLsb' 0 4 } ∧
     exec .rtblp s = .next { s.advance 1 with
       latch := { s.latch with p4 := d.extractLsb' 4 4, p5 := d.extractLsb' 0 4 } })

/-! ### Jumps, subroutines, the stack -/

/-- JMP (46 R240): PC11 to PC0 the operand, the bank kept, PC12 complemented directly after BANK (the spec's reading of a
damaged note, log 16); JPEA (R241): PC7 to PC0 are E, AC, the page kept. Bank and page are those of the instruction or of
the address after it, the same except at a bank or page end (log 20). Nothing else changes. -/
def Obligations.Jumps : Prop :=
  ∀ s : State,
    (∀ p : BitVec 12, ∃ t, exec (.jmp p) s = .next t ∧ t = { s.advance 2 with pc := t.pc } ∧
      t.pc.extractLsb' 0 12 = p ∧
      ∃ bank : BitVec 2, (bank = s.pc.extractLsb' 12 2 ∨ bank = (s.pc + 2).extractLsb' 12 2) ∧
        t.pc.extractLsb' 12 2 = if s.bnk then bank ^^^ 1#2 else bank) ∧
    (∃ t, exec .jpea s = .next t ∧ t = { s.advance 1 with pc := t.pc } ∧
      t.pc.extractLsb' 0 8 = s.e ++ s.ac ∧
      (t.pc.extractLsb' 8 6 = s.pc.extractLsb' 8 6 ∨ t.pc.extractLsb' 8 6 = (s.pc + 1).extractLsb' 8 6))

/-- CAL and CZP (46 R242, R243): the frame {CF, ZF, address of the next instruction} in the four words that end at SP
(the placement is the spec's own, log 18), SP - 4, the target; CZP's target is four times its operand (C4). No flag; only
the four words of memory change. -/
def Obligations.Calls : Prop :=
  ∀ s : State,
    (∀ p : BitVec 11, AnswersWithMemory (exec (.cal p) s)
      { s.advance 2 with pc := BitVec.ofNat 14 p.toNat, sp := s.sp - 4 }
      (wordsWithFrame s (BitVec.ofBool s.cf ++ BitVec.ofBool s.zf ++ (s.pc + 2)))) ∧
    (∀ p : Nibble, AnswersWithMemory (exec (.czp p) s)
      { s.advance 1 with pc := BitVec.ofNat 14 (4 * p.toNat), sp := s.sp - 4 }
      (wordsWithFrame s (BitVec.ofBool s.cf ++ BitVec.ofBool s.zf ++ (s.pc + 1))))

/-- PUSH and POP (46 R245, R246): the low half of the pair in the word at SP - 1, the high half at SP, then SP - 2, and
back (the placement is the spec's own, log 18). No flag, also for POP AE; only the two words change. -/
def Obligations.PushAndPop : Prop :=
  ∀ s : State,
    let words := fun hi lo : Nibble => fun b : RamAddr =>
      if b = stackAddr s.sp then hi else if b = stackAddr (s.sp - 1) then lo else s.readWord b
    let hi := s.readWord (stackAddr (s.sp + 2))
    let lo := s.readWord (stackAddr (s.sp + 1))
    AnswersWithMemory (exec .pushHl s) { s.advance 2 with sp := s.sp - 2 } (words s.dph s.dpl) ∧
    AnswersWithMemory (exec .pushXy s) { s.advance 2 with sp := s.sp - 2 } (words s.dpx s.dpy) ∧
    AnswersWithMemory (exec .pushAe s) { s.advance 2 with sp := s.sp - 2 } (words s.e s.ac) ∧
    exec .popHl s = .next { s.advance 2 with sp := s.sp + 2, dph := hi, dpl := lo } ∧
    exec .popXy s = .next { s.advance 2 with sp := s.sp + 2, dpx := hi, dpy := lo } ∧
    exec .popAe s = .next { s.advance 2 with sp := s.sp + 2, e := hi, ac := lo }

/-- RT and RTI (46 R247, R248): SP + 4, PC from bits 13 to 0 of the frame, CF and ZF from bits 15 and 14 for RTI alone;
RTI leaves MSE (the spec's default RTI_MSE = unchanged, log 29). The frame's words: log 18. -/
def Obligations.Returns : Prop :=
  ∀ s : State,
    let w : BitVec 16 := s.readWord (stackAddr (s.sp + 4)) ++ s.readWord (stackAddr (s.sp + 3))
      ++ s.readWord (stackAddr (s.sp + 2)) ++ s.readWord (stackAddr (s.sp + 1))
    exec .rt s = .next { s.advance 1 with sp := s.sp + 4, pc := w.extractLsb' 0 14 } ∧
    exec .rti s = .next { s.advance 1 with
      sp := s.sp + 4, pc := w.extractLsb' 0 14, cf := w.getLsbD 15, zf := w.getLsbD 14 }

/-- BANK (46 R244; the one-instruction latch is the spec's decision, log 16), NOP (49 R311), SB (R312; SB_MODE =
immediate, and the same formula where SB ends a bank, which is the model's choice: log 36). -/
def Obligations.BankNopSb : Prop :=
  ∀ s : State,
    exec .bank s = .next { s with pc := s.pc + 1, bnk := true, lsk := false } ∧
    exec .nop s = .next { s with pc := s.pc + 1, bnk := false, lsk := false } ∧
    (∀ i2 : BitVec 2, exec (.sb i2) s = .next { s with
      pc := i2 ++ (s.pc + 2).extractLsb' 0 12, bnk := false, lsk := false })

/-! ### Branches -/

/-- The branches on a bit of AC, a bit of M (HL), CF, ZF and a user flag (47_branch R255 to R259, R262 to R267): taken,
the low 8 bits of PC and the page kept; not taken, the next instruction; no register, flag or word changes. The page at a
page end is log 20. -/
def Obligations.Branches : Prop :=
  ∀ (s : State) (p : Byte),
    (∀ t2 : BitVec 2,
      BranchAnswer (exec (.ba t2 p) s) s (bitAt s.ac t2) p ∧ BranchAnswer (exec (.bna t2 p) s) s (!bitAt s.ac t2) p ∧
      BranchAnswer (exec (.bm t2 p) s) s (bitAt (s.readWord s.eaHl) t2) p ∧
      BranchAnswer (exec (.bnm t2 p) s) s (!bitAt (s.readWord s.eaHl) t2) p) ∧
    BranchAnswer (exec (.bc p) s) s s.cf p ∧ BranchAnswer (exec (.bnc p) s) s (!s.cf) p ∧
    BranchAnswer (exec (.bz p) s) s s.zf p ∧ BranchAnswer (exec (.bnz p) s) s (!s.zf) p ∧
    (∀ n4 : Nibble,
      BranchAnswer (exec (.bf n4 p) s) s (s.f.getLsbD n4.toNat) p ∧
      BranchAnswer (exec (.bnf n4 p) s) s (!s.f.getLsbD n4.toNat) p)

/-- BPt2 and BNPt2 (47_branch R260, R261): on a bit of the port that DPL names; directly after BANK on a bit of a control
register, a free value (log 26). The port numbers: log 23; the page at a page end: log 20. -/
def Obligations.BranchesOnPort : Prop :=
  ∀ (s : State) (t2 : BitVec 2) (p : Byte),
    (∀ q : Port, s.bnk = false → portOf s.dpl = some q →
      BranchAnswer (exec (.bp t2 p) s) s (bitAt (pinRead s q) t2) p ∧
      BranchAnswer (exec (.bnp t2 p) s) s (!bitAt (pinRead s q) t2) p) ∧
    (s.bnk = true →
      BranchAnswer (exec (.bp t2 p) s) { s with draws := s.draws + 1 } (bitAt (Config.freeControl s.draws s.dpl) t2) p ∧
      BranchAnswer (exec (.bnp t2 p) s) { s with draws := s.draws + 1 }
        (!bitAt (Config.freeControl s.draws s.dpl) t2) p)

/-! ### Ports -/

/-- IP0, IP, IPDR, IPM, IP45 on I/O ports (48_io R271 to R275): what the pins read into AC with ZF (log 11), into the
word at HL, into E and AC; directly after BANK a free value of the control register (20_memory R70, log 26), IPM then
storing it in RAM bank 1 (log 17). The port numbers: log 23. -/
def Obligations.PortInputs : Prop :=
  ∀ s : State,
    (s.bnk = false →
      exec .ip0 s = .next { s.advance 1 with ac := pinRead s .p0, zf := decide ((pinRead s .p0).toNat = 0) } ∧
      exec .ip45 s = .next { s.advance 2 with e := pinRead s .p4, ac := pinRead s .p5 } ∧
      (∀ p, portOf s.dpl = some p →
        exec .ip s = .next { s.advance 1 with ac := pinRead s p, zf := decide ((pinRead s p).toNat = 0) } ∧
        AnswersWithMemory (exec .ipm s) (s.advance 1) (wordsWith s s.eaHl (pinRead s p))) ∧
      (∀ n p, portOf n = some p →
        exec (.ipdr n) s = .next { s.advance 2 with ac := pinRead s p, zf := decide ((pinRead s p).toNat = 0) })) ∧
    (s.bnk = true →
      let free := Config.freeControl s.draws
      exec .ip0 s = .next { s.advance 1 with ac := free 0, zf := decide ((free 0).toNat = 0), draws := s.draws + 1 } ∧
      exec .ip45 s = .next { s.advance 2 with e := free 4, ac := free 5, draws := s.draws + 1 } ∧
      exec .ip s = .next { s.advance 1 with
        ac := free s.dpl, zf := decide ((free s.dpl).toNat = 0), draws := s.draws + 1 } ∧
      AnswersWithMemory (exec .ipm s) { s.advance 1 with draws := s.draws + 1 }
        (wordsWith s s.eaHl (free s.dpl)) ∧
      (∀ n, exec (.ipdr n) s = .next { s.advance 2 with
        ac := free n, zf := decide ((free n).toNat = 0), draws := s.draws + 1 }))

/-- OP, OPM, OPDR, OP45 on I/O ports (48_io R276 to R279): the latch of the port, bits without an output pin ignored, no
other latch and nothing else; directly after BANK the value is recorded in the control register (20_memory R70,
log 26), for OPM a word of RAM bank 1 (log 17). The port numbers: log 23. -/
def Obligations.PortOutputs : Prop :=
  ∀ s : State,
    (s.bnk = false →
      (∀ p, portOf s.dpl = some p →
        AnswersWithPort (exec .op s) s (s.advance 1) p s.ac ∧
        AnswersWithPort (exec .opm s) s (s.advance 1) p (s.readWord s.eaHl)) ∧
      (∀ n p, portOf n = some p → AnswersWithPort (exec (.opdr n) s) s (s.advance 2) p s.ac) ∧
      exec .op45 s = .next { s.advance 2 with latch := { s.latch with p4 := s.e, p5 := s.ac } }) ∧
    (s.bnk = true →
      exec .op s = .next { s.advance 1 with ctl := s.ctl.set s.dpl.toNat s.ac s.dpl.isLt } ∧
      exec .opm s = .next { s.advance 1 with ctl := s.ctl.set s.dpl.toNat (s.readWord s.eaHl) s.dpl.isLt } ∧
      (∀ n : Nibble, exec (.opdr n) s = .next { s.advance 2 with ctl := s.ctl.set n.toNat s.ac n.isLt }) ∧
      exec .op45 s = .next { s.advance 2 with ctl := (s.ctl.set 4 s.e).set 5 s.ac })

/-- SPB, RPB, ANDPDR, ORPDR on I/O ports (48_io R280 to R283): the latch from what the pins read (PORT_RMW_SOURCE = pin,
the spec's decision, log 25); SPB writes no flag, the others ZF of the value written (for RPB ZF_CLEAR_OPS = word, log 14;
log 11). Directly after BANK the old value is a free value and the new one is recorded (log 26). The port numbers:
log 23. -/
def Obligations.PortModifications : Prop :=
  ∀ s : State,
    (s.bnk = false →
      (∀ (p : Port) (t2 : BitVec 2), portOf s.dpl = some p →
        AnswersWithPort (exec (.spb t2) s) s (s.advance 1) p (setBit (pinRead s p) t2 true) ∧
        AnswersWithPort (exec (.rpb t2) s) s
          { s.advance 1 with zf := decide ((setBit (pinRead s p) t2 false).toNat = 0) } p
          (setBit (pinRead s p) t2 false)) ∧
      (∀ (n i4 : Nibble) (p : Port), portOf n = some p →
        AnswersWithPort (exec (.andpdr i4 n) s) s
          { s.advance 2 with zf := decide ((pinRead s p &&& i4).toNat = 0) } p (pinRead s p &&& i4) ∧
        AnswersWithPort (exec (.orpdr i4 n) s) s
          { s.advance 2 with zf := decide ((pinRead s p ||| i4).toNat = 0) } p (pinRead s p ||| i4))) ∧
    (s.bnk = true →
      let free := Config.freeControl s.draws
      (∀ t2 : BitVec 2,
        exec (.spb t2) s = .next { s.advance 1 with
          ctl := s.ctl.set s.dpl.toNat (setBit (free s.dpl) t2 true) s.dpl.isLt, draws := s.draws + 1 } ∧
        exec (.rpb t2) s = .next { s.advance 1 with
          ctl := s.ctl.set s.dpl.toNat (setBit (free s.dpl) t2 false) s.dpl.isLt, draws := s.draws + 1,
          zf := decide ((setBit (free s.dpl) t2 false).toNat = 0) }) ∧
      (∀ i4 n : Nibble,
        exec (.andpdr i4 n) s = .next { s.advance 2 with
          ctl := s.ctl.set n.toNat (free n &&& i4) n.isLt, draws := s.draws + 1,
          zf := decide ((free n &&& i4).toNat = 0) } ∧
        exec (.orpdr i4 n) s = .next { s.advance 2 with
          ctl := s.ctl.set n.toNat (free n ||| i4) n.isLt, draws := s.draws + 1,
          zf := decide ((free n ||| i4).toNat = 0) }))

/-! ### Timers, interrupts, standby, serial -/

/-- WTTM0 and RTIM0 on an even address (49 R290, R292; the part order is the spec's decision, log 38), WTTM1, RTIM1
(R291, R293), START0, START1 (R294, R295: the counter becomes a free value, log 31), STOP0, STOP1 (R296, R297). No flag. That WTTM0 leaves the
counter alone is the model's choice, log 49. -/
def Obligations.Timers : Prop :=
  ∀ s : State,
    (s.dpl.getLsbD 0 = false →
      exec .wttm0 s = .next { s.advance 1 with
        t0Reload := BitVec.ofNat 12
          (256 * (s.readWord (nextWord s.eaHl)).toNat + 16 * (s.readWord s.eaHl).toNat + s.ac.toNat) } ∧
      AnswersWithMemory (exec .rtim0 s) { s.advance 1 with ac := BitVec.ofNat 4 s.t0Count.toNat }
        (fun b => if b = s.eaHl then BitVec.ofNat 4 (s.t0Count.toNat / 16)
          else if b = nextWord s.eaHl then BitVec.ofNat 4 (s.t0Count.toNat / 256) else s.readWord b)) ∧
    exec .wttm1 s = .next { s.advance 2 with t1ReloadA := s.e ++ s.ac } ∧
    exec .rtim1 s = .next { s.advance 2 with e := s.t1Count.extractLsb' 4 4, ac := s.t1Count.extractLsb' 0 4 } ∧
    (∃ c, exec .start0 s = .next { s.advance 2 with t0Run := true, t0Count := c, draws := s.draws + 1 }) ∧
    (∃ c, exec .start1 s = .next { s.advance 2 with t1Run := true, t1Count := c, draws := s.draws + 1 }) ∧
    exec .stop0 s = .next { s.advance 2 with t0Run := false } ∧
    exec .stop1 s = .next { s.advance 2 with t1Run := false }

/-- MSET, MRESET, EIH, EIL, DIH, DIL (49 R298 to R303) and RFB (45_flag R236): the enable bits by mask, the flag named
cleared; ZF only by DIH, DIL and RFB, of the four bits after the clear (ZF_CLEAR_OPS = word and the grouping of the flags
by four, log 14). -/
def Obligations.EnableBitsAndFlagClear : Prop :=
  ∀ s : State,
    exec .mset s = .next { s.advance 2 with mse := true } ∧
    exec .mreset s = .next { s.advance 2 with mse := false } ∧
    (∀ i4 : Nibble,
      exec (.eih i4) s = .next { s.advance 2 with edih := s.edih ||| i4 } ∧
      exec (.eil i4) s = .next { s.advance 2 with edil := s.edil ||| i4 } ∧
      exec (.dih i4) s = .next { s.advance 2 with
        edih := s.edih &&& ~~~i4, zf := decide ((s.edih &&& ~~~i4).toNat = 0) } ∧
      exec (.dil i4) s = .next { s.advance 2 with
        edil := s.edil &&& ~~~i4, zf := decide ((s.edil &&& ~~~i4).toNat = 0) }) ∧
    (∀ n4 : Nibble,
      let f' := s.f &&& ~~~(1#16 <<< n4.toNat)
      exec (.rfb n4) s = .next { s.advance 1 with f := f', zf := decide (f'.toNat / 16 ^ (n4.toNat / 4) % 16 = 0) })

/-- WTSP, RSP (49 R304, R305), STARTS, WTSIO, RSIO (R308, R309, R310; a write during a transfer leaves a free value,
log 31). No flag. -/
def Obligations.StackPointerAndSerial : Prop :=
  ∀ s : State,
    exec .wtsp s = .next { s.advance 2 with sp := s.e ++ s.ac } ∧
    exec .rsp s = .next { s.advance 2 with e := s.sp.extractLsb' 4 4, ac := s.sp.extractLsb' 0 4 } ∧
    exec .starts s = .next { s.advance 2 with sioRun := true } ∧
    exec .rsio s = .next { s.advance 2 with e := s.sio.extractLsb' 4 4, ac := s.sio.extractLsb' 0 4 } ∧
    (s.sioRun = false → exec .wtsio s = .next { s.advance 2 with sio := s.e ++ s.ac }) ∧
    (s.sioRun = true → ∃ v, exec .wtsio s = .next { s.advance 2 with sio := v, draws := s.draws + 1 })

/-- HALT (49 R306); HOLD with P33/HOLD low, and with the pin high, where doing nothing is the spec's decision (R307,
log 33). -/
def Obligations.StandbyEntry : Prop :=
  ∀ s : State,
    exec .halt s = .next { s.advance 2 with mode := .halt } ∧
    (s.pins.p3.getLsbD 3 = false → exec .hold s = .next { s.advance 2 with mode := .hold }) ∧
    (s.pins.p3.getLsbD 3 = true → exec .hold s = .next (s.advance 2))

/-- The steps of the standby modes (60 R343, R344; the release rules are the spec's decision, logs 32, 33): in halt mode
with no reset and no accepted interrupt nothing happens but at the boundary, unless the halt-control event resumes at PC;
in hold mode with no reset nothing changes but what is outside, and the output types when RES is low (70 R362). -/
def Obligations.StandbySteps : Prop :=
  ∀ s : State, resetTaken s.event s.boundary = false → s.phase = .out →
    (s.mode = .halt → s.boundary.acceptable = none → s.event.p0Release = false → step s = .next s.boundary) ∧
    (s.mode = .halt → s.boundary.acceptable = none → s.event.p0Release = true →
      step s = .next { s.boundary with mode := .run }) ∧
    (s.mode = .hold → step s = .next { s with
      pins := s.sampledPins, env := s.env.tail, draws := s.draws + 1, typesSet := s.typesSet && !s.event.res })

/-! ### Interrupts -/

/-- When an interrupt is accepted, and which (60 R327 to R330; the mechanism is the spec's decision, log 28; the enable
bits and the ranks are uninterpreted, log 27): with MSE = 1, BNK = 0 and a pending factor whose enable bit is 1, and then
one that no other such factor ranks before. -/
def Obligations.InterruptAcceptance : Prop :=
  ∀ s : State,
    let candidate := fun f : Fin 10 =>
      s.irqPending.getLsbD f.val = true ∧ (s.edih ++ s.edil : Byte).getLsbD (Config.irqBit f).val = true
    (s.acceptable = none ↔ s.mse = false ∨ s.bnk = true ∨ ∀ f, ¬candidate f) ∧
    (∀ f, s.acceptable = some f → candidate f ∧ ∀ g, candidate g → Config.irqRank f ≤ Config.irqRank g)

/-- Interrupt entry instead of the instruction, in run and in halt mode (60 R330, R343; what entry clears is the spec's
decision, log 28; the vectors are uninterpreted, log 27): the request removed, the frame {CF, ZF, PC} on the stack as CAL
writes it (log 18), SP - 4, PC the vector, MSE and LSK cleared, MODE run; nothing else changes. -/
def Obligations.InterruptEntry : Prop :=
  ∀ (s : State) (f : Fin 10), resetTaken s.event s.boundary = false → s.phase = .out → s.mode ≠ .hold →
    s.boundary.acceptable = some f →
    ∃ pending : BitVec 10,
      AnswersWithMemory (step s)
        { s.boundary with
          irqPending := pending, sp := s.sp - 4, pc := Config.vec (Config.factorVec f), mse := false, lsk := false,
          mode := .run }
        (wordsWithFrame s (BitVec.ofBool s.cf ++ BitVec.ofBool s.zf ++ s.pc)) ∧
      ∀ g : Fin 10, pending.getLsbD g.val = if g = f then false else s.boundary.irqPending.getLsbD g.val

/-- What is pushed is what comes back (60 R331, 46 R242, R243, R247, R248): RTI directly after interrupt entry restores
PC, CF, ZF and SP; from any state with the SP and the data memory that CAL or CZP left, RT goes to the instruction after
the call and restores SP, keeping its own CF and ZF, and RTI also restores the caller's CF and ZF. -/
def Obligations.FramesReturn : Prop :=
  (∀ (s : State) (f : Fin 10), ∃ v, exec .rti (s.enterInterrupt f) = .next v ∧
    v.pc = s.pc ∧ v.cf = s.cf ∧ v.zf = s.zf ∧ v.sp = s.sp) ∧
  (∀ (s t u : State) (i : Instr), (∃ p, i = .cal p) ∨ (∃ p, i = .czp p) → exec i s = .next t →
    u.sp = t.sp → (∀ a, u.readWord a = t.readWord a) →
    (∃ v, exec .rt u = .next v ∧ v.pc = s.pc + BitVec.ofNat 14 i.length ∧ v.sp = s.sp ∧ v.cf = u.cf ∧ v.zf = u.zf) ∧
    (∃ v, exec .rti u = .next v ∧ v.pc = s.pc + BitVec.ofNat 14 i.length ∧ v.sp = s.sp ∧ v.cf = s.cf ∧ v.zf = s.zf))

/-- POP undoes PUSH and LAE undoes SAE (46 R245, R246, 43_load_store R190, R194): from any state with the SP, the pointers
that matter and the data memory that the first instruction left. POP XY after PUSH HL is "a move between pairs through
the stack". -/
def Obligations.PushThenPop : Prop :=
  (∀ s t u : State, u.sp = t.sp → (∀ a, u.readWord a = t.readWord a) →
    (exec .pushHl s = .next t →
      (∃ v, exec .popHl u = .next v ∧ v.dph = s.dph ∧ v.dpl = s.dpl ∧ v.sp = s.sp) ∧
      (∃ v, exec .popXy u = .next v ∧ v.dpx = s.dph ∧ v.dpy = s.dpl ∧ v.sp = s.sp)) ∧
    (exec .pushXy s = .next t → ∃ v, exec .popXy u = .next v ∧ v.dpx = s.dpx ∧ v.dpy = s.dpy ∧ v.sp = s.sp) ∧
    (exec .pushAe s = .next t → ∃ v, exec .popAe u = .next v ∧ v.e = s.e ∧ v.ac = s.ac ∧ v.sp = s.sp)) ∧
  (∀ s t u : State, exec .sae s = .next t → u.eaHl = s.eaHl → (∀ a, u.readWord a = t.readWord a) →
    ∃ v, exec .lae u = .next v ∧ v.ac = s.ac ∧ v.e = s.e)
end

