-- ==== Sys2Proof/Laws/Arithmetic.lean ====
section
/-!
SUPPORT. What the arithmetic helpers compute, in natural numbers, and the laws of the bit-field helpers (00_scope R12,
R13, R19).
-/

namespace Sys2Proof.Machine

/-- The sum of `add4`, modulo 16. -/
theorem add4_fst (a b : Nibble) (c : Bool) : (add4 a b c).1 = BitVec.ofNat 4 (a.toNat + b.toNat + c.toNat) := by
  revert a b c; decide

/-- The carry of `add4`. -/
theorem add4_snd (a b : Nibble) (c : Bool) : (add4 a b c).2 = decide (16 ≤ a.toNat + b.toNat + c.toNat) := by
  revert a b c; decide

/-- `a - b` modulo 16, and no borrow exactly when `b ≤ a` (00_scope R19). -/
theorem sub4_eq (a b : Nibble) : sub4 a b = (a - b, decide (b.toNat ≤ a.toNat)) := by
  revert a b; decide

theorem isZero_iff (v : Nibble) : isZero v = true ↔ v = 0 := by simp [isZero]

@[simp] theorem hiNib_pairOf (h l : Nibble) : hiNib (pairOf h l) = h := by
  revert h l; decide

@[simp] theorem loNib_pairOf (h l : Nibble) : loNib (pairOf h l) = l := by
  revert h l; decide

@[simp] theorem pairOf_hiNib_loNib (v : Byte) : pairOf (hiNib v) (loNib v) = v := by
  revert v; decide

theorem pairOf_toNat (h l : Nibble) : (pairOf h l).toNat = 16 * h.toNat + l.toNat := by
  revert h l; decide

/-- `setbit` sets the one bit and leaves the others. -/
theorem bitAt_setBit (v : Nibble) (t u : BitVec 2) (x : Bool) :
    bitAt (setBit v t x) u = if u = t then x else bitAt v u := by
  revert v t u x; decide

/-- The word after an address is another word of the same bank. -/
theorem nextWord_ne (a : RamAddr) : nextWord a ≠ a := by
  revert a; decide

/-! ### The fields of a program address -/

theorem page_append_low (q : BitVec 6) (p : Byte) : (q ++ p : RomAddr).extractLsb' 0 8 = p := by
  apply BitVec.eq_of_toNat_eq
  simp only [BitVec.extractLsb'_toNat, BitVec.toNat_append, Nat.shiftRight_zero]
  have := p.isLt
  rw [← Nat.shiftLeft_add_eq_or_of_lt p.isLt]
  omega

theorem page_append_page (q : BitVec 6) (p : Byte) : (q ++ p : RomAddr).extractLsb' 8 6 = q := by
  apply BitVec.eq_of_toNat_eq
  simp only [BitVec.extractLsb'_toNat, BitVec.toNat_append]
  rw [← Nat.shiftLeft_add_eq_or_of_lt p.isLt, Nat.shiftLeft_eq, Nat.shiftRight_eq_div_pow]
  have := p.isLt
  have := q.isLt
  omega

theorem bank_append_low (q : BitVec 2) (p : BitVec 12) : (q ++ p : RomAddr).extractLsb' 0 12 = p := by
  apply BitVec.eq_of_toNat_eq
  simp only [BitVec.extractLsb'_toNat, BitVec.toNat_append, Nat.shiftRight_zero]
  have := p.isLt
  rw [← Nat.shiftLeft_add_eq_or_of_lt p.isLt]
  omega

theorem bank_append_bank (q : BitVec 2) (p : BitVec 12) : (q ++ p : RomAddr).extractLsb' 12 2 = q := by
  apply BitVec.eq_of_toNat_eq
  simp only [BitVec.extractLsb'_toNat, BitVec.toNat_append]
  rw [← Nat.shiftLeft_add_eq_or_of_lt p.isLt, Nat.shiftLeft_eq, Nat.shiftRight_eq_div_pow]
  have := p.isLt
  have := q.isLt
  omega

end Sys2Proof.Machine
end

