-- ==== Sys2Proof/Laws/Memory.lean ====
section
/-!
SUPPORT. The laws of memory: read after write, a write leaves every other place alone, and every operation keeps the
canonical form of both memories (20_memory R61, R62).
-/

namespace Sys2Proof.Machine

namespace Memory

variable {w : Nat}

theorem lookup_put (m : Memory w) (a b : Nat) (v : BitVec w) :
    lookup (put m a v) b = if b = a then some v else lookup m b := by
  induction m with
  | nil => simp [put, lookup]
  | cons c rest ih =>
    obtain ⟨k, u⟩ := c
    simp only [put]
    split
    · simp [lookup]
    · split
      · subst_vars; by_cases h : b = k <;> simp [lookup, h]
      · by_cases h : b = k
        · subst h; simp [lookup]; omega
        · simp [lookup, h, ih]

theorem rising_cons (a : Nat) (v : BitVec w) (m : Memory w) :
    rising ((a, v) :: m) = true ↔ (∀ c ∈ m, a < c.1) ∧ rising m = true := by
  simp [rising, List.all_eq_true]

theorem mem_put (m : Memory w) (a : Nat) (v : BitVec w) :
    ∀ c ∈ put m a v, c = (a, v) ∨ c ∈ m := by
  induction m with
  | nil => simp [put]
  | cons d rest ih =>
    obtain ⟨k, u⟩ := d
    intro c hc
    simp only [put] at hc
    split at hc
    · simpa using hc
    · split at hc
      · rcases List.mem_cons.1 hc with h | h
        · exact .inl h
        · exact .inr (List.mem_cons_of_mem _ h)
      · rcases List.mem_cons.1 hc with h | h
        · exact .inr (h ▸ List.mem_cons_self)
        · exact (ih c h).imp id (List.mem_cons_of_mem _)

theorem rising_put (m : Memory w) (a : Nat) (v : BitVec w) (h : rising m = true) : rising (put m a v) = true := by
  induction m with
  | nil => simp [put, rising]
  | cons d rest ih =>
    obtain ⟨k, u⟩ := d
    obtain ⟨hall, hr⟩ := (rising_cons k u rest).1 h
    simp only [put]
    split
    · rename_i hak
      refine (rising_cons _ _ _).2 ⟨?_, h⟩
      intro c hc
      rcases List.mem_cons.1 hc with rfl | hc
      · exact hak
      · exact hak.trans (hall c hc)
    · split
      · subst_vars; exact (rising_cons _ _ _).2 ⟨hall, hr⟩
      · refine (rising_cons _ _ _).2 ⟨?_, ih hr⟩
        intro c hc
        rcases mem_put rest a v c hc with rfl | hc
        · simp only; omega
        · exact hall c hc

theorem wf_iff (size : Nat) (m : Memory w) : wf size m = true ↔ rising m = true ∧ ∀ c ∈ m, c.1 < size := by
  simp [wf, List.all_eq_true]

/-- A write inside the address space keeps the canonical form. -/
theorem wf_put (size : Nat) (m : Memory w) (a : Nat) (v : BitVec w) (ha : a < size) (h : wf size m = true) :
    wf size (put m a v) = true := by
  obtain ⟨hr, hall⟩ := (wf_iff _ _).1 h
  refine (wf_iff _ _).2 ⟨rising_put m a v hr, fun c hc => ?_⟩
  rcases mem_put m a v c hc with rfl | hc
  · exact ha
  · exact hall c hc

end Memory

/-- Reading a word of data memory after a write. -/
@[simp] theorem ramWord_storeRam (ram : Memory 4) (epoch : Nat) (a b : RamAddr) (v : Nibble) :
    ramWord (storeRam ram a v) epoch b = if b = a then v else ramWord ram epoch b := by
  unfold ramWord storeRam
  rw [Memory.lookup_put]
  by_cases h : b = a
  · simp [h]
  · have : b.toNat ≠ a.toNat := fun e => h (BitVec.eq_of_toNat_eq e)
    simp [h, this]

/-- Reading a byte of program memory after one is placed. -/
@[simp] theorem romByte_storeRom (rom : Memory 8) (a b : RomAddr) (v : Byte) :
    romByte (storeRom rom a v) b = if b = a then v else romByte rom b := by
  unfold romByte storeRom
  rw [Memory.lookup_put]
  by_cases h : b = a
  · simp [h]
  · have : b.toNat ≠ a.toNat := fun e => h (BitVec.eq_of_toNat_eq e)
    simp [h, this]

/-- `MemRead` after `MemWrite`, for one word. -/
@[simp] theorem State.readWord_writeWord (s : State) (a b : RamAddr) (v : Nibble) :
    (s.writeWord a v).readWord b = if b = a then v else s.readWord b :=
  ramWord_storeRam s.ram s.ramEpoch a b v

/-- Every write of data memory keeps its canonical form. -/
theorem ramWf_storeRam (ram : Memory 4) (a : RamAddr) (v : Nibble) (h : ramWf ram = true) :
    ramWf (storeRam ram a v) = true := Memory.wf_put _ _ _ _ a.isLt h

/-- Every placing of a byte keeps the canonical form of program memory. -/
theorem romWf_storeRom (rom : Memory 8) (a : RomAddr) (v : Byte) (h : romWf rom = true) :
    romWf (storeRom rom a v) = true := Memory.wf_put _ _ _ _ a.isLt h

theorem romWf_storeRomBytes (rom : Memory 8) (a : RomAddr) (bytes : List Byte) (h : romWf rom = true) :
    romWf (storeRomBytes rom a bytes) = true := by
  induction bytes generalizing rom a with
  | nil => exact h
  | cons b rest ih => exact ih _ _ (romWf_storeRom _ _ _ h)

theorem ramWf_reset : ramWf State.reset.ram = true := rfl

theorem romWf_reset : romWf State.reset.rom = true := rfl

end Sys2Proof.Machine
end

