-- ==== Sys2Proof/Laws/State.lean ====
section
/-!
SUPPORT. One lemma per field per named update of `State`, each true by `rfl`, so that no later proof unfolds a record update.
The updates whose fields depend on a case (a pointer, a port, a branch, a boundary) have one equation each at the end.
-/

namespace Sys2Proof.Machine

@[simp] theorem State.advance_ac (s : State) (len : RomAddr) : (s.advance len).ac = s.ac := rfl
@[simp] theorem State.advance_e (s : State) (len : RomAddr) : (s.advance len).e = s.e := rfl
@[simp] theorem State.advance_dph (s : State) (len : RomAddr) : (s.advance len).dph = s.dph := rfl
@[simp] theorem State.advance_dpl (s : State) (len : RomAddr) : (s.advance len).dpl = s.dpl := rfl
@[simp] theorem State.advance_dpx (s : State) (len : RomAddr) : (s.advance len).dpx = s.dpx := rfl
@[simp] theorem State.advance_dpy (s : State) (len : RomAddr) : (s.advance len).dpy = s.dpy := rfl
@[simp] theorem State.advance_pc (s : State) (len : RomAddr) : (s.advance len).pc = s.pc + len := rfl
@[simp] theorem State.advance_sp (s : State) (len : RomAddr) : (s.advance len).sp = s.sp := rfl
@[simp] theorem State.advance_cf (s : State) (len : RomAddr) : (s.advance len).cf = s.cf := rfl
@[simp] theorem State.advance_zf (s : State) (len : RomAddr) : (s.advance len).zf = s.zf := rfl
@[simp] theorem State.advance_f (s : State) (len : RomAddr) : (s.advance len).f = s.f := rfl
@[simp] theorem State.advance_mse (s : State) (len : RomAddr) : (s.advance len).mse = s.mse := rfl
@[simp] theorem State.advance_edih (s : State) (len : RomAddr) : (s.advance len).edih = s.edih := rfl
@[simp] theorem State.advance_edil (s : State) (len : RomAddr) : (s.advance len).edil = s.edil := rfl
@[simp] theorem State.advance_bnk (s : State) (len : RomAddr) : (s.advance len).bnk = false := rfl
@[simp] theorem State.advance_lsk (s : State) (len : RomAddr) : (s.advance len).lsk = false := rfl
@[simp] theorem State.advance_mode (s : State) (len : RomAddr) : (s.advance len).mode = s.mode := rfl
@[simp] theorem State.advance_ram (s : State) (len : RomAddr) : (s.advance len).ram = s.ram := rfl
@[simp] theorem State.advance_rom (s : State) (len : RomAddr) : (s.advance len).rom = s.rom := rfl
@[simp] theorem State.advance_latch (s : State) (len : RomAddr) : (s.advance len).latch = s.latch := rfl
@[simp] theorem State.advance_ctl (s : State) (len : RomAddr) : (s.advance len).ctl = s.ctl := rfl
@[simp] theorem State.advance_t0Reload (s : State) (len : RomAddr) : (s.advance len).t0Reload = s.t0Reload := rfl
@[simp] theorem State.advance_t0Count (s : State) (len : RomAddr) : (s.advance len).t0Count = s.t0Count := rfl
@[simp] theorem State.advance_t0Run (s : State) (len : RomAddr) : (s.advance len).t0Run = s.t0Run := rfl
@[simp] theorem State.advance_t1ReloadA (s : State) (len : RomAddr) : (s.advance len).t1ReloadA = s.t1ReloadA := rfl
@[simp] theorem State.advance_t1Count (s : State) (len : RomAddr) : (s.advance len).t1Count = s.t1Count := rfl
@[simp] theorem State.advance_t1Run (s : State) (len : RomAddr) : (s.advance len).t1Run = s.t1Run := rfl
@[simp] theorem State.advance_sio (s : State) (len : RomAddr) : (s.advance len).sio = s.sio := rfl
@[simp] theorem State.advance_sioRun (s : State) (len : RomAddr) : (s.advance len).sioRun = s.sioRun := rfl
@[simp] theorem State.advance_irqPending (s : State) (len : RomAddr) : (s.advance len).irqPending = s.irqPending := rfl
@[simp] theorem State.advance_pins (s : State) (len : RomAddr) : (s.advance len).pins = s.pins := rfl
@[simp] theorem State.advance_env (s : State) (len : RomAddr) : (s.advance len).env = s.env := rfl
@[simp] theorem State.advance_draws (s : State) (len : RomAddr) : (s.advance len).draws = s.draws := rfl
@[simp] theorem State.advance_ramEpoch (s : State) (len : RomAddr) : (s.advance len).ramEpoch = s.ramEpoch := rfl
@[simp] theorem State.advance_phase (s : State) (len : RomAddr) : (s.advance len).phase = s.phase := rfl
@[simp] theorem State.advance_inverters (s : State) (len : RomAddr) : (s.advance len).inverters = s.inverters := rfl
@[simp] theorem State.advance_shared (s : State) (len : RomAddr) : (s.advance len).shared = s.shared := rfl
@[simp] theorem State.advance_typesSet (s : State) (len : RomAddr) : (s.advance len).typesSet = s.typesSet := rfl

@[simp] theorem State.advanceIo_ac (s : State) (len : RomAddr) : (s.advanceIo len).ac = s.ac := rfl
@[simp] theorem State.advanceIo_e (s : State) (len : RomAddr) : (s.advanceIo len).e = s.e := rfl
@[simp] theorem State.advanceIo_dph (s : State) (len : RomAddr) : (s.advanceIo len).dph = s.dph := rfl
@[simp] theorem State.advanceIo_dpl (s : State) (len : RomAddr) : (s.advanceIo len).dpl = s.dpl := rfl
@[simp] theorem State.advanceIo_dpx (s : State) (len : RomAddr) : (s.advanceIo len).dpx = s.dpx := rfl
@[simp] theorem State.advanceIo_dpy (s : State) (len : RomAddr) : (s.advanceIo len).dpy = s.dpy := rfl
@[simp] theorem State.advanceIo_pc (s : State) (len : RomAddr) : (s.advanceIo len).pc = s.pc + len := rfl
@[simp] theorem State.advanceIo_sp (s : State) (len : RomAddr) : (s.advanceIo len).sp = s.sp := rfl
@[simp] theorem State.advanceIo_cf (s : State) (len : RomAddr) : (s.advanceIo len).cf = s.cf := rfl
@[simp] theorem State.advanceIo_zf (s : State) (len : RomAddr) : (s.advanceIo len).zf = s.zf := rfl
@[simp] theorem State.advanceIo_f (s : State) (len : RomAddr) : (s.advanceIo len).f = s.f := rfl
@[simp] theorem State.advanceIo_mse (s : State) (len : RomAddr) : (s.advanceIo len).mse = s.mse := rfl
@[simp] theorem State.advanceIo_edih (s : State) (len : RomAddr) : (s.advanceIo len).edih = s.edih := rfl
@[simp] theorem State.advanceIo_edil (s : State) (len : RomAddr) : (s.advanceIo len).edil = s.edil := rfl
@[simp] theorem State.advanceIo_bnk (s : State) (len : RomAddr) : (s.advanceIo len).bnk = false := rfl
@[simp] theorem State.advanceIo_lsk (s : State) (len : RomAddr) : (s.advanceIo len).lsk = false := rfl
@[simp] theorem State.advanceIo_mode (s : State) (len : RomAddr) : (s.advanceIo len).mode = s.mode := rfl
@[simp] theorem State.advanceIo_ram (s : State) (len : RomAddr) : (s.advanceIo len).ram = s.ram := rfl
@[simp] theorem State.advanceIo_rom (s : State) (len : RomAddr) : (s.advanceIo len).rom = s.rom := rfl
@[simp] theorem State.advanceIo_latch (s : State) (len : RomAddr) : (s.advanceIo len).latch = s.latch := rfl
@[simp] theorem State.advanceIo_ctl (s : State) (len : RomAddr) : (s.advanceIo len).ctl = s.ctl := rfl
@[simp] theorem State.advanceIo_t0Reload (s : State) (len : RomAddr) : (s.advanceIo len).t0Reload = s.t0Reload := rfl
@[simp] theorem State.advanceIo_t0Count (s : State) (len : RomAddr) : (s.advanceIo len).t0Count = s.t0Count := rfl
@[simp] theorem State.advanceIo_t0Run (s : State) (len : RomAddr) : (s.advanceIo len).t0Run = s.t0Run := rfl
@[simp] theorem State.advanceIo_t1ReloadA (s : State) (len : RomAddr) : (s.advanceIo len).t1ReloadA = s.t1ReloadA := rfl
@[simp] theorem State.advanceIo_t1Count (s : State) (len : RomAddr) : (s.advanceIo len).t1Count = s.t1Count := rfl
@[simp] theorem State.advanceIo_t1Run (s : State) (len : RomAddr) : (s.advanceIo len).t1Run = s.t1Run := rfl
@[simp] theorem State.advanceIo_sio (s : State) (len : RomAddr) : (s.advanceIo len).sio = s.sio := rfl
@[simp] theorem State.advanceIo_sioRun (s : State) (len : RomAddr) : (s.advanceIo len).sioRun = s.sioRun := rfl
@[simp] theorem State.advanceIo_irqPending (s : State) (len : RomAddr) : (s.advanceIo len).irqPending = s.irqPending := rfl
@[simp] theorem State.advanceIo_pins (s : State) (len : RomAddr) : (s.advanceIo len).pins = s.pins := rfl
@[simp] theorem State.advanceIo_env (s : State) (len : RomAddr) : (s.advanceIo len).env = s.env := rfl
@[simp] theorem State.advanceIo_draws (s : State) (len : RomAddr) : (s.advanceIo len).draws = s.draws + (if s.bnk then 1 else 0) := rfl
@[simp] theorem State.advanceIo_ramEpoch (s : State) (len : RomAddr) : (s.advanceIo len).ramEpoch = s.ramEpoch := rfl
@[simp] theorem State.advanceIo_phase (s : State) (len : RomAddr) : (s.advanceIo len).phase = s.phase := rfl
@[simp] theorem State.advanceIo_inverters (s : State) (len : RomAddr) : (s.advanceIo len).inverters = s.inverters := rfl
@[simp] theorem State.advanceIo_shared (s : State) (len : RomAddr) : (s.advanceIo len).shared = s.shared := rfl
@[simp] theorem State.advanceIo_typesSet (s : State) (len : RomAddr) : (s.advanceIo len).typesSet = s.typesSet := rfl

@[simp] theorem State.writeWord_ac (s : State) (a : RamAddr) (v : Nibble) : (s.writeWord a v).ac = s.ac := rfl
@[simp] theorem State.writeWord_e (s : State) (a : RamAddr) (v : Nibble) : (s.writeWord a v).e = s.e := rfl
@[simp] theorem State.writeWord_dph (s : State) (a : RamAddr) (v : Nibble) : (s.writeWord a v).dph = s.dph := rfl
@[simp] theorem State.writeWord_dpl (s : State) (a : RamAddr) (v : Nibble) : (s.writeWord a v).dpl = s.dpl := rfl
@[simp] theorem State.writeWord_dpx (s : State) (a : RamAddr) (v : Nibble) : (s.writeWord a v).dpx = s.dpx := rfl
@[simp] theorem State.writeWord_dpy (s : State) (a : RamAddr) (v : Nibble) : (s.writeWord a v).dpy = s.dpy := rfl
@[simp] theorem State.writeWord_pc (s : State) (a : RamAddr) (v : Nibble) : (s.writeWord a v).pc = s.pc := rfl
@[simp] theorem State.writeWord_sp (s : State) (a : RamAddr) (v : Nibble) : (s.writeWord a v).sp = s.sp := rfl
@[simp] theorem State.writeWord_cf (s : State) (a : RamAddr) (v : Nibble) : (s.writeWord a v).cf = s.cf := rfl
@[simp] theorem State.writeWord_zf (s : State) (a : RamAddr) (v : Nibble) : (s.writeWord a v).zf = s.zf := rfl
@[simp] theorem State.writeWord_f (s : State) (a : RamAddr) (v : Nibble) : (s.writeWord a v).f = s.f := rfl
@[simp] theorem State.writeWord_mse (s : State) (a : RamAddr) (v : Nibble) : (s.writeWord a v).mse = s.mse := rfl
@[simp] theorem State.writeWord_edih (s : State) (a : RamAddr) (v : Nibble) : (s.writeWord a v).edih = s.edih := rfl
@[simp] theorem State.writeWord_edil (s : State) (a : RamAddr) (v : Nibble) : (s.writeWord a v).edil = s.edil := rfl
@[simp] theorem State.writeWord_bnk (s : State) (a : RamAddr) (v : Nibble) : (s.writeWord a v).bnk = s.bnk := rfl
@[simp] theorem State.writeWord_lsk (s : State) (a : RamAddr) (v : Nibble) : (s.writeWord a v).lsk = s.lsk := rfl
@[simp] theorem State.writeWord_mode (s : State) (a : RamAddr) (v : Nibble) : (s.writeWord a v).mode = s.mode := rfl
@[simp] theorem State.writeWord_ram (s : State) (a : RamAddr) (v : Nibble) : (s.writeWord a v).ram = storeRam s.ram a v := rfl
@[simp] theorem State.writeWord_rom (s : State) (a : RamAddr) (v : Nibble) : (s.writeWord a v).rom = s.rom := rfl
@[simp] theorem State.writeWord_latch (s : State) (a : RamAddr) (v : Nibble) : (s.writeWord a v).latch = s.latch := rfl
@[simp] theorem State.writeWord_ctl (s : State) (a : RamAddr) (v : Nibble) : (s.writeWord a v).ctl = s.ctl := rfl
@[simp] theorem State.writeWord_t0Reload (s : State) (a : RamAddr) (v : Nibble) : (s.writeWord a v).t0Reload = s.t0Reload := rfl
@[simp] theorem State.writeWord_t0Count (s : State) (a : RamAddr) (v : Nibble) : (s.writeWord a v).t0Count = s.t0Count := rfl
@[simp] theorem State.writeWord_t0Run (s : State) (a : RamAddr) (v : Nibble) : (s.writeWord a v).t0Run = s.t0Run := rfl
@[simp] theorem State.writeWord_t1ReloadA (s : State) (a : RamAddr) (v : Nibble) : (s.writeWord a v).t1ReloadA = s.t1ReloadA := rfl
@[simp] theorem State.writeWord_t1Count (s : State) (a : RamAddr) (v : Nibble) : (s.writeWord a v).t1Count = s.t1Count := rfl
@[simp] theorem State.writeWord_t1Run (s : State) (a : RamAddr) (v : Nibble) : (s.writeWord a v).t1Run = s.t1Run := rfl
@[simp] theorem State.writeWord_sio (s : State) (a : RamAddr) (v : Nibble) : (s.writeWord a v).sio = s.sio := rfl
@[simp] theorem State.writeWord_sioRun (s : State) (a : RamAddr) (v : Nibble) : (s.writeWord a v).sioRun = s.sioRun := rfl
@[simp] theorem State.writeWord_irqPending (s : State) (a : RamAddr) (v : Nibble) : (s.writeWord a v).irqPending = s.irqPending := rfl
@[simp] theorem State.writeWord_pins (s : State) (a : RamAddr) (v : Nibble) : (s.writeWord a v).pins = s.pins := rfl
@[simp] theorem State.writeWord_env (s : State) (a : RamAddr) (v : Nibble) : (s.writeWord a v).env = s.env := rfl
@[simp] theorem State.writeWord_draws (s : State) (a : RamAddr) (v : Nibble) : (s.writeWord a v).draws = s.draws := rfl
@[simp] theorem State.writeWord_ramEpoch (s : State) (a : RamAddr) (v : Nibble) : (s.writeWord a v).ramEpoch = s.ramEpoch := rfl
@[simp] theorem State.writeWord_phase (s : State) (a : RamAddr) (v : Nibble) : (s.writeWord a v).phase = s.phase := rfl
@[simp] theorem State.writeWord_inverters (s : State) (a : RamAddr) (v : Nibble) : (s.writeWord a v).inverters = s.inverters := rfl
@[simp] theorem State.writeWord_shared (s : State) (a : RamAddr) (v : Nibble) : (s.writeWord a v).shared = s.shared := rfl
@[simp] theorem State.writeWord_typesSet (s : State) (a : RamAddr) (v : Nibble) : (s.writeWord a v).typesSet = s.typesSet := rfl

@[simp] theorem State.storeAt_ac (s : State) (len : RomAddr) (a : RamAddr) (v : Nibble) : (s.storeAt len a v).ac = s.ac := rfl
@[simp] theorem State.storeAt_e (s : State) (len : RomAddr) (a : RamAddr) (v : Nibble) : (s.storeAt len a v).e = s.e := rfl
@[simp] theorem State.storeAt_dph (s : State) (len : RomAddr) (a : RamAddr) (v : Nibble) : (s.storeAt len a v).dph = s.dph := rfl
@[simp] theorem State.storeAt_dpl (s : State) (len : RomAddr) (a : RamAddr) (v : Nibble) : (s.storeAt len a v).dpl = s.dpl := rfl
@[simp] theorem State.storeAt_dpx (s : State) (len : RomAddr) (a : RamAddr) (v : Nibble) : (s.storeAt len a v).dpx = s.dpx := rfl
@[simp] theorem State.storeAt_dpy (s : State) (len : RomAddr) (a : RamAddr) (v : Nibble) : (s.storeAt len a v).dpy = s.dpy := rfl
@[simp] theorem State.storeAt_pc (s : State) (len : RomAddr) (a : RamAddr) (v : Nibble) : (s.storeAt len a v).pc = s.pc + len := rfl
@[simp] theorem State.storeAt_sp (s : State) (len : RomAddr) (a : RamAddr) (v : Nibble) : (s.storeAt len a v).sp = s.sp := rfl
@[simp] theorem State.storeAt_cf (s : State) (len : RomAddr) (a : RamAddr) (v : Nibble) : (s.storeAt len a v).cf = s.cf := rfl
@[simp] theorem State.storeAt_zf (s : State) (len : RomAddr) (a : RamAddr) (v : Nibble) : (s.storeAt len a v).zf = s.zf := rfl
@[simp] theorem State.storeAt_f (s : State) (len : RomAddr) (a : RamAddr) (v : Nibble) : (s.storeAt len a v).f = s.f := rfl
@[simp] theorem State.storeAt_mse (s : State) (len : RomAddr) (a : RamAddr) (v : Nibble) : (s.storeAt len a v).mse = s.mse := rfl
@[simp] theorem State.storeAt_edih (s : State) (len : RomAddr) (a : RamAddr) (v : Nibble) : (s.storeAt len a v).edih = s.edih := rfl
@[simp] theorem State.storeAt_edil (s : State) (len : RomAddr) (a : RamAddr) (v : Nibble) : (s.storeAt len a v).edil = s.edil := rfl
@[simp] theorem State.storeAt_bnk (s : State) (len : RomAddr) (a : RamAddr) (v : Nibble) : (s.storeAt len a v).bnk = false := rfl
@[simp] theorem State.storeAt_lsk (s : State) (len : RomAddr) (a : RamAddr) (v : Nibble) : (s.storeAt len a v).lsk = false := rfl
@[simp] theorem State.storeAt_mode (s : State) (len : RomAddr) (a : RamAddr) (v : Nibble) : (s.storeAt len a v).mode = s.mode := rfl
@[simp] theorem State.storeAt_ram (s : State) (len : RomAddr) (a : RamAddr) (v : Nibble) : (s.storeAt len a v).ram = storeRam s.ram a v := rfl
@[simp] theorem State.storeAt_rom (s : State) (len : RomAddr) (a : RamAddr) (v : Nibble) : (s.storeAt len a v).rom = s.rom := rfl
@[simp] theorem State.storeAt_latch (s : State) (len : RomAddr) (a : RamAddr) (v : Nibble) : (s.storeAt len a v).latch = s.latch := rfl
@[simp] theorem State.storeAt_ctl (s : State) (len : RomAddr) (a : RamAddr) (v : Nibble) : (s.storeAt len a v).ctl = s.ctl := rfl
@[simp] theorem State.storeAt_t0Reload (s : State) (len : RomAddr) (a : RamAddr) (v : Nibble) : (s.storeAt len a v).t0Reload = s.t0Reload := rfl
@[simp] theorem State.storeAt_t0Count (s : State) (len : RomAddr) (a : RamAddr) (v : Nibble) : (s.storeAt len a v).t0Count = s.t0Count := rfl
@[simp] theorem State.storeAt_t0Run (s : State) (len : RomAddr) (a : RamAddr) (v : Nibble) : (s.storeAt len a v).t0Run = s.t0Run := rfl
@[simp] theorem State.storeAt_t1ReloadA (s : State) (len : RomAddr) (a : RamAddr) (v : Nibble) : (s.storeAt len a v).t1ReloadA = s.t1ReloadA := rfl
@[simp] theorem State.storeAt_t1Count (s : State) (len : RomAddr) (a : RamAddr) (v : Nibble) : (s.storeAt len a v).t1Count = s.t1Count := rfl
@[simp] theorem State.storeAt_t1Run (s : State) (len : RomAddr) (a : RamAddr) (v : Nibble) : (s.storeAt len a v).t1Run = s.t1Run := rfl
@[simp] theorem State.storeAt_sio (s : State) (len : RomAddr) (a : RamAddr) (v : Nibble) : (s.storeAt len a v).sio = s.sio := rfl
@[simp] theorem State.storeAt_sioRun (s : State) (len : RomAddr) (a : RamAddr) (v : Nibble) : (s.storeAt len a v).sioRun = s.sioRun := rfl
@[simp] theorem State.storeAt_irqPending (s : State) (len : RomAddr) (a : RamAddr) (v : Nibble) : (s.storeAt len a v).irqPending = s.irqPending := rfl
@[simp] theorem State.storeAt_pins (s : State) (len : RomAddr) (a : RamAddr) (v : Nibble) : (s.storeAt len a v).pins = s.pins := rfl
@[simp] theorem State.storeAt_env (s : State) (len : RomAddr) (a : RamAddr) (v : Nibble) : (s.storeAt len a v).env = s.env := rfl
@[simp] theorem State.storeAt_draws (s : State) (len : RomAddr) (a : RamAddr) (v : Nibble) : (s.storeAt len a v).draws = s.draws := rfl
@[simp] theorem State.storeAt_ramEpoch (s : State) (len : RomAddr) (a : RamAddr) (v : Nibble) : (s.storeAt len a v).ramEpoch = s.ramEpoch := rfl
@[simp] theorem State.storeAt_phase (s : State) (len : RomAddr) (a : RamAddr) (v : Nibble) : (s.storeAt len a v).phase = s.phase := rfl
@[simp] theorem State.storeAt_inverters (s : State) (len : RomAddr) (a : RamAddr) (v : Nibble) : (s.storeAt len a v).inverters = s.inverters := rfl
@[simp] theorem State.storeAt_shared (s : State) (len : RomAddr) (a : RamAddr) (v : Nibble) : (s.storeAt len a v).shared = s.shared := rfl
@[simp] theorem State.storeAt_typesSet (s : State) (len : RomAddr) (a : RamAddr) (v : Nibble) : (s.storeAt len a v).typesSet = s.typesSet := rfl

@[simp] theorem State.pushPair_ac (s : State) (v : Byte) : (s.pushPair v).ac = s.ac := by
  simp only [State.pushPair, State.writeWord_ac]
@[simp] theorem State.pushPair_e (s : State) (v : Byte) : (s.pushPair v).e = s.e := by
  simp only [State.pushPair, State.writeWord_e]
@[simp] theorem State.pushPair_dph (s : State) (v : Byte) : (s.pushPair v).dph = s.dph := by
  simp only [State.pushPair, State.writeWord_dph]
@[simp] theorem State.pushPair_dpl (s : State) (v : Byte) : (s.pushPair v).dpl = s.dpl := by
  simp only [State.pushPair, State.writeWord_dpl]
@[simp] theorem State.pushPair_dpx (s : State) (v : Byte) : (s.pushPair v).dpx = s.dpx := by
  simp only [State.pushPair, State.writeWord_dpx]
@[simp] theorem State.pushPair_dpy (s : State) (v : Byte) : (s.pushPair v).dpy = s.dpy := by
  simp only [State.pushPair, State.writeWord_dpy]
@[simp] theorem State.pushPair_pc (s : State) (v : Byte) : (s.pushPair v).pc = s.pc := by
  simp only [State.pushPair, State.writeWord_pc]
@[simp] theorem State.pushPair_sp (s : State) (v : Byte) : (s.pushPair v).sp = s.sp - 2 := by
  simp only [State.pushPair]
@[simp] theorem State.pushPair_cf (s : State) (v : Byte) : (s.pushPair v).cf = s.cf := by
  simp only [State.pushPair, State.writeWord_cf]
@[simp] theorem State.pushPair_zf (s : State) (v : Byte) : (s.pushPair v).zf = s.zf := by
  simp only [State.pushPair, State.writeWord_zf]
@[simp] theorem State.pushPair_f (s : State) (v : Byte) : (s.pushPair v).f = s.f := by
  simp only [State.pushPair, State.writeWord_f]
@[simp] theorem State.pushPair_mse (s : State) (v : Byte) : (s.pushPair v).mse = s.mse := by
  simp only [State.pushPair, State.writeWord_mse]
@[simp] theorem State.pushPair_edih (s : State) (v : Byte) : (s.pushPair v).edih = s.edih := by
  simp only [State.pushPair, State.writeWord_edih]
@[simp] theorem State.pushPair_edil (s : State) (v : Byte) : (s.pushPair v).edil = s.edil := by
  simp only [State.pushPair, State.writeWord_edil]
@[simp] theorem State.pushPair_bnk (s : State) (v : Byte) : (s.pushPair v).bnk = s.bnk := by
  simp only [State.pushPair, State.writeWord_bnk]
@[simp] theorem State.pushPair_lsk (s : State) (v : Byte) : (s.pushPair v).lsk = s.lsk := by
  simp only [State.pushPair, State.writeWord_lsk]
@[simp] theorem State.pushPair_mode (s : State) (v : Byte) : (s.pushPair v).mode = s.mode := by
  simp only [State.pushPair, State.writeWord_mode]
@[simp] theorem State.pushPair_ram (s : State) (v : Byte) : (s.pushPair v).ram = storeRam (storeRam s.ram (stackAddr (s.sp - 1)) (loNib v)) (stackAddr s.sp) (hiNib v) := by
  simp only [State.pushPair, State.writeWord_ram]
@[simp] theorem State.pushPair_rom (s : State) (v : Byte) : (s.pushPair v).rom = s.rom := by
  simp only [State.pushPair, State.writeWord_rom]
@[simp] theorem State.pushPair_latch (s : State) (v : Byte) : (s.pushPair v).latch = s.latch := by
  simp only [State.pushPair, State.writeWord_latch]
@[simp] theorem State.pushPair_ctl (s : State) (v : Byte) : (s.pushPair v).ctl = s.ctl := by
  simp only [State.pushPair, State.writeWord_ctl]
@[simp] theorem State.pushPair_t0Reload (s : State) (v : Byte) : (s.pushPair v).t0Reload = s.t0Reload := by
  simp only [State.pushPair, State.writeWord_t0Reload]
@[simp] theorem State.pushPair_t0Count (s : State) (v : Byte) : (s.pushPair v).t0Count = s.t0Count := by
  simp only [State.pushPair, State.writeWord_t0Count]
@[simp] theorem State.pushPair_t0Run (s : State) (v : Byte) : (s.pushPair v).t0Run = s.t0Run := by
  simp only [State.pushPair, State.writeWord_t0Run]
@[simp] theorem State.pushPair_t1ReloadA (s : State) (v : Byte) : (s.pushPair v).t1ReloadA = s.t1ReloadA := by
  simp only [State.pushPair, State.writeWord_t1ReloadA]
@[simp] theorem State.pushPair_t1Count (s : State) (v : Byte) : (s.pushPair v).t1Count = s.t1Count := by
  simp only [State.pushPair, State.writeWord_t1Count]
@[simp] theorem State.pushPair_t1Run (s : State) (v : Byte) : (s.pushPair v).t1Run = s.t1Run := by
  simp only [State.pushPair, State.writeWord_t1Run]
@[simp] theorem State.pushPair_sio (s : State) (v : Byte) : (s.pushPair v).sio = s.sio := by
  simp only [State.pushPair, State.writeWord_sio]
@[simp] theorem State.pushPair_sioRun (s : State) (v : Byte) : (s.pushPair v).sioRun = s.sioRun := by
  simp only [State.pushPair, State.writeWord_sioRun]
@[simp] theorem State.pushPair_irqPending (s : State) (v : Byte) : (s.pushPair v).irqPending = s.irqPending := by
  simp only [State.pushPair, State.writeWord_irqPending]
@[simp] theorem State.pushPair_pins (s : State) (v : Byte) : (s.pushPair v).pins = s.pins := by
  simp only [State.pushPair, State.writeWord_pins]
@[simp] theorem State.pushPair_env (s : State) (v : Byte) : (s.pushPair v).env = s.env := by
  simp only [State.pushPair, State.writeWord_env]
@[simp] theorem State.pushPair_draws (s : State) (v : Byte) : (s.pushPair v).draws = s.draws := by
  simp only [State.pushPair, State.writeWord_draws]
@[simp] theorem State.pushPair_ramEpoch (s : State) (v : Byte) : (s.pushPair v).ramEpoch = s.ramEpoch := by
  simp only [State.pushPair, State.writeWord_ramEpoch]
@[simp] theorem State.pushPair_phase (s : State) (v : Byte) : (s.pushPair v).phase = s.phase := by
  simp only [State.pushPair, State.writeWord_phase]
@[simp] theorem State.pushPair_inverters (s : State) (v : Byte) : (s.pushPair v).inverters = s.inverters := by
  simp only [State.pushPair, State.writeWord_inverters]
@[simp] theorem State.pushPair_shared (s : State) (v : Byte) : (s.pushPair v).shared = s.shared := by
  simp only [State.pushPair, State.writeWord_shared]
@[simp] theorem State.pushPair_typesSet (s : State) (v : Byte) : (s.pushPair v).typesSet = s.typesSet := by
  simp only [State.pushPair, State.writeWord_typesSet]

@[simp] theorem State.pushFrame_ac (s : State) (ret : RomAddr) : (s.pushFrame ret).ac = s.ac := by
  simp only [State.pushFrame, State.writeWord_ac]
@[simp] theorem State.pushFrame_e (s : State) (ret : RomAddr) : (s.pushFrame ret).e = s.e := by
  simp only [State.pushFrame, State.writeWord_e]
@[simp] theorem State.pushFrame_dph (s : State) (ret : RomAddr) : (s.pushFrame ret).dph = s.dph := by
  simp only [State.pushFrame, State.writeWord_dph]
@[simp] theorem State.pushFrame_dpl (s : State) (ret : RomAddr) : (s.pushFrame ret).dpl = s.dpl := by
  simp only [State.pushFrame, State.writeWord_dpl]
@[simp] theorem State.pushFrame_dpx (s : State) (ret : RomAddr) : (s.pushFrame ret).dpx = s.dpx := by
  simp only [State.pushFrame, State.writeWord_dpx]
@[simp] theorem State.pushFrame_dpy (s : State) (ret : RomAddr) : (s.pushFrame ret).dpy = s.dpy := by
  simp only [State.pushFrame, State.writeWord_dpy]
@[simp] theorem State.pushFrame_pc (s : State) (ret : RomAddr) : (s.pushFrame ret).pc = s.pc := by
  simp only [State.pushFrame, State.writeWord_pc]
@[simp] theorem State.pushFrame_sp (s : State) (ret : RomAddr) : (s.pushFrame ret).sp = s.sp - 4 := by
  simp only [State.pushFrame]
@[simp] theorem State.pushFrame_cf (s : State) (ret : RomAddr) : (s.pushFrame ret).cf = s.cf := by
  simp only [State.pushFrame, State.writeWord_cf]
@[simp] theorem State.pushFrame_zf (s : State) (ret : RomAddr) : (s.pushFrame ret).zf = s.zf := by
  simp only [State.pushFrame, State.writeWord_zf]
@[simp] theorem State.pushFrame_f (s : State) (ret : RomAddr) : (s.pushFrame ret).f = s.f := by
  simp only [State.pushFrame, State.writeWord_f]
@[simp] theorem State.pushFrame_mse (s : State) (ret : RomAddr) : (s.pushFrame ret).mse = s.mse := by
  simp only [State.pushFrame, State.writeWord_mse]
@[simp] theorem State.pushFrame_edih (s : State) (ret : RomAddr) : (s.pushFrame ret).edih = s.edih := by
  simp only [State.pushFrame, State.writeWord_edih]
@[simp] theorem State.pushFrame_edil (s : State) (ret : RomAddr) : (s.pushFrame ret).edil = s.edil := by
  simp only [State.pushFrame, State.writeWord_edil]
@[simp] theorem State.pushFrame_bnk (s : State) (ret : RomAddr) : (s.pushFrame ret).bnk = s.bnk := by
  simp only [State.pushFrame, State.writeWord_bnk]
@[simp] theorem State.pushFrame_lsk (s : State) (ret : RomAddr) : (s.pushFrame ret).lsk = s.lsk := by
  simp only [State.pushFrame, State.writeWord_lsk]
@[simp] theorem State.pushFrame_mode (s : State) (ret : RomAddr) : (s.pushFrame ret).mode = s.mode := by
  simp only [State.pushFrame, State.writeWord_mode]
@[simp] theorem State.pushFrame_rom (s : State) (ret : RomAddr) : (s.pushFrame ret).rom = s.rom := by
  simp only [State.pushFrame, State.writeWord_rom]
@[simp] theorem State.pushFrame_latch (s : State) (ret : RomAddr) : (s.pushFrame ret).latch = s.latch := by
  simp only [State.pushFrame, State.writeWord_latch]
@[simp] theorem State.pushFrame_ctl (s : State) (ret : RomAddr) : (s.pushFrame ret).ctl = s.ctl := by
  simp only [State.pushFrame, State.writeWord_ctl]
@[simp] theorem State.pushFrame_t0Reload (s : State) (ret : RomAddr) : (s.pushFrame ret).t0Reload = s.t0Reload := by
  simp only [State.pushFrame, State.writeWord_t0Reload]
@[simp] theorem State.pushFrame_t0Count (s : State) (ret : RomAddr) : (s.pushFrame ret).t0Count = s.t0Count := by
  simp only [State.pushFrame, State.writeWord_t0Count]
@[simp] theorem State.pushFrame_t0Run (s : State) (ret : RomAddr) : (s.pushFrame ret).t0Run = s.t0Run := by
  simp only [State.pushFrame, State.writeWord_t0Run]
@[simp] theorem State.pushFrame_t1ReloadA (s : State) (ret : RomAddr) : (s.pushFrame ret).t1ReloadA = s.t1ReloadA := by
  simp only [State.pushFrame, State.writeWord_t1ReloadA]
@[simp] theorem State.pushFrame_t1Count (s : State) (ret : RomAddr) : (s.pushFrame ret).t1Count = s.t1Count := by
  simp only [State.pushFrame, State.writeWord_t1Count]
@[simp] theorem State.pushFrame_t1Run (s : State) (ret : RomAddr) : (s.pushFrame ret).t1Run = s.t1Run := by
  simp only [State.pushFrame, State.writeWord_t1Run]
@[simp] theorem State.pushFrame_sio (s : State) (ret : RomAddr) : (s.pushFrame ret).sio = s.sio := by
  simp only [State.pushFrame, State.writeWord_sio]
@[simp] theorem State.pushFrame_sioRun (s : State) (ret : RomAddr) : (s.pushFrame ret).sioRun = s.sioRun := by
  simp only [State.pushFrame, State.writeWord_sioRun]
@[simp] theorem State.pushFrame_irqPending (s : State) (ret : RomAddr) : (s.pushFrame ret).irqPending = s.irqPending := by
  simp only [State.pushFrame, State.writeWord_irqPending]
@[simp] theorem State.pushFrame_pins (s : State) (ret : RomAddr) : (s.pushFrame ret).pins = s.pins := by
  simp only [State.pushFrame, State.writeWord_pins]
@[simp] theorem State.pushFrame_env (s : State) (ret : RomAddr) : (s.pushFrame ret).env = s.env := by
  simp only [State.pushFrame, State.writeWord_env]
@[simp] theorem State.pushFrame_draws (s : State) (ret : RomAddr) : (s.pushFrame ret).draws = s.draws := by
  simp only [State.pushFrame, State.writeWord_draws]
@[simp] theorem State.pushFrame_ramEpoch (s : State) (ret : RomAddr) : (s.pushFrame ret).ramEpoch = s.ramEpoch := by
  simp only [State.pushFrame, State.writeWord_ramEpoch]
@[simp] theorem State.pushFrame_phase (s : State) (ret : RomAddr) : (s.pushFrame ret).phase = s.phase := by
  simp only [State.pushFrame, State.writeWord_phase]
@[simp] theorem State.pushFrame_inverters (s : State) (ret : RomAddr) : (s.pushFrame ret).inverters = s.inverters := by
  simp only [State.pushFrame, State.writeWord_inverters]
@[simp] theorem State.pushFrame_shared (s : State) (ret : RomAddr) : (s.pushFrame ret).shared = s.shared := by
  simp only [State.pushFrame, State.writeWord_shared]
@[simp] theorem State.pushFrame_typesSet (s : State) (ret : RomAddr) : (s.pushFrame ret).typesSet = s.typesSet := by
  simp only [State.pushFrame, State.writeWord_typesSet]

@[simp] theorem State.call_ac (s : State) (len target : RomAddr) : (s.call len target).ac = s.ac := by
  simp only [State.call, State.pushFrame_ac, State.advance_ac]
@[simp] theorem State.call_e (s : State) (len target : RomAddr) : (s.call len target).e = s.e := by
  simp only [State.call, State.pushFrame_e, State.advance_e]
@[simp] theorem State.call_dph (s : State) (len target : RomAddr) : (s.call len target).dph = s.dph := by
  simp only [State.call, State.pushFrame_dph, State.advance_dph]
@[simp] theorem State.call_dpl (s : State) (len target : RomAddr) : (s.call len target).dpl = s.dpl := by
  simp only [State.call, State.pushFrame_dpl, State.advance_dpl]
@[simp] theorem State.call_dpx (s : State) (len target : RomAddr) : (s.call len target).dpx = s.dpx := by
  simp only [State.call, State.pushFrame_dpx, State.advance_dpx]
@[simp] theorem State.call_dpy (s : State) (len target : RomAddr) : (s.call len target).dpy = s.dpy := by
  simp only [State.call, State.pushFrame_dpy, State.advance_dpy]
@[simp] theorem State.call_pc (s : State) (len target : RomAddr) : (s.call len target).pc = target := by
  simp only [State.call]
@[simp] theorem State.call_sp (s : State) (len target : RomAddr) : (s.call len target).sp = s.sp - 4 := by
  simp only [State.call, State.pushFrame_sp, State.advance_sp]
@[simp] theorem State.call_cf (s : State) (len target : RomAddr) : (s.call len target).cf = s.cf := by
  simp only [State.call, State.pushFrame_cf, State.advance_cf]
@[simp] theorem State.call_zf (s : State) (len target : RomAddr) : (s.call len target).zf = s.zf := by
  simp only [State.call, State.pushFrame_zf, State.advance_zf]
@[simp] theorem State.call_f (s : State) (len target : RomAddr) : (s.call len target).f = s.f := by
  simp only [State.call, State.pushFrame_f, State.advance_f]
@[simp] theorem State.call_mse (s : State) (len target : RomAddr) : (s.call len target).mse = s.mse := by
  simp only [State.call, State.pushFrame_mse, State.advance_mse]
@[simp] theorem State.call_edih (s : State) (len target : RomAddr) : (s.call len target).edih = s.edih := by
  simp only [State.call, State.pushFrame_edih, State.advance_edih]
@[simp] theorem State.call_edil (s : State) (len target : RomAddr) : (s.call len target).edil = s.edil := by
  simp only [State.call, State.pushFrame_edil, State.advance_edil]
@[simp] theorem State.call_bnk (s : State) (len target : RomAddr) : (s.call len target).bnk = false := by
  simp only [State.call, State.pushFrame_bnk, State.advance_bnk]
@[simp] theorem State.call_lsk (s : State) (len target : RomAddr) : (s.call len target).lsk = false := by
  simp only [State.call, State.pushFrame_lsk, State.advance_lsk]
@[simp] theorem State.call_mode (s : State) (len target : RomAddr) : (s.call len target).mode = s.mode := by
  simp only [State.call, State.pushFrame_mode, State.advance_mode]
@[simp] theorem State.call_ram (s : State) (len target : RomAddr) : (s.call len target).ram = ((s.advance len).pushFrame (s.pc + len)).ram := by
  simp only [State.call]
@[simp] theorem State.call_rom (s : State) (len target : RomAddr) : (s.call len target).rom = s.rom := by
  simp only [State.call, State.pushFrame_rom, State.advance_rom]
@[simp] theorem State.call_latch (s : State) (len target : RomAddr) : (s.call len target).latch = s.latch := by
  simp only [State.call, State.pushFrame_latch, State.advance_latch]
@[simp] theorem State.call_ctl (s : State) (len target : RomAddr) : (s.call len target).ctl = s.ctl := by
  simp only [State.call, State.pushFrame_ctl, State.advance_ctl]
@[simp] theorem State.call_t0Reload (s : State) (len target : RomAddr) : (s.call len target).t0Reload = s.t0Reload := by
  simp only [State.call, State.pushFrame_t0Reload, State.advance_t0Reload]
@[simp] theorem State.call_t0Count (s : State) (len target : RomAddr) : (s.call len target).t0Count = s.t0Count := by
  simp only [State.call, State.pushFrame_t0Count, State.advance_t0Count]
@[simp] theorem State.call_t0Run (s : State) (len target : RomAddr) : (s.call len target).t0Run = s.t0Run := by
  simp only [State.call, State.pushFrame_t0Run, State.advance_t0Run]
@[simp] theorem State.call_t1ReloadA (s : State) (len target : RomAddr) : (s.call len target).t1ReloadA = s.t1ReloadA := by
  simp only [State.call, State.pushFrame_t1ReloadA, State.advance_t1ReloadA]
@[simp] theorem State.call_t1Count (s : State) (len target : RomAddr) : (s.call len target).t1Count = s.t1Count := by
  simp only [State.call, State.pushFrame_t1Count, State.advance_t1Count]
@[simp] theorem State.call_t1Run (s : State) (len target : RomAddr) : (s.call len target).t1Run = s.t1Run := by
  simp only [State.call, State.pushFrame_t1Run, State.advance_t1Run]
@[simp] theorem State.call_sio (s : State) (len target : RomAddr) : (s.call len target).sio = s.sio := by
  simp only [State.call, State.pushFrame_sio, State.advance_sio]
@[simp] theorem State.call_sioRun (s : State) (len target : RomAddr) : (s.call len target).sioRun = s.sioRun := by
  simp only [State.call, State.pushFrame_sioRun, State.advance_sioRun]
@[simp] theorem State.call_irqPending (s : State) (len target : RomAddr) : (s.call len target).irqPending = s.irqPending := by
  simp only [State.call, State.pushFrame_irqPending, State.advance_irqPending]
@[simp] theorem State.call_pins (s : State) (len target : RomAddr) : (s.call len target).pins = s.pins := by
  simp only [State.call, State.pushFrame_pins, State.advance_pins]
@[simp] theorem State.call_env (s : State) (len target : RomAddr) : (s.call len target).env = s.env := by
  simp only [State.call, State.pushFrame_env, State.advance_env]
@[simp] theorem State.call_draws (s : State) (len target : RomAddr) : (s.call len target).draws = s.draws := by
  simp only [State.call, State.pushFrame_draws, State.advance_draws]
@[simp] theorem State.call_ramEpoch (s : State) (len target : RomAddr) : (s.call len target).ramEpoch = s.ramEpoch := by
  simp only [State.call, State.pushFrame_ramEpoch, State.advance_ramEpoch]
@[simp] theorem State.call_phase (s : State) (len target : RomAddr) : (s.call len target).phase = s.phase := by
  simp only [State.call, State.pushFrame_phase, State.advance_phase]
@[simp] theorem State.call_inverters (s : State) (len target : RomAddr) : (s.call len target).inverters = s.inverters := by
  simp only [State.call, State.pushFrame_inverters, State.advance_inverters]
@[simp] theorem State.call_shared (s : State) (len target : RomAddr) : (s.call len target).shared = s.shared := by
  simp only [State.call, State.pushFrame_shared, State.advance_shared]
@[simp] theorem State.call_typesSet (s : State) (len target : RomAddr) : (s.call len target).typesSet = s.typesSet := by
  simp only [State.call, State.pushFrame_typesSet, State.advance_typesSet]

@[simp] theorem State.returnKeepFlags_ac (s : State) : s.returnKeepFlags.ac = s.ac := rfl
@[simp] theorem State.returnKeepFlags_e (s : State) : s.returnKeepFlags.e = s.e := rfl
@[simp] theorem State.returnKeepFlags_dph (s : State) : s.returnKeepFlags.dph = s.dph := rfl
@[simp] theorem State.returnKeepFlags_dpl (s : State) : s.returnKeepFlags.dpl = s.dpl := rfl
@[simp] theorem State.returnKeepFlags_dpx (s : State) : s.returnKeepFlags.dpx = s.dpx := rfl
@[simp] theorem State.returnKeepFlags_dpy (s : State) : s.returnKeepFlags.dpy = s.dpy := rfl
@[simp] theorem State.returnKeepFlags_pc (s : State) : s.returnKeepFlags.pc = s.topFrame.extractLsb' 0 14 := rfl
@[simp] theorem State.returnKeepFlags_sp (s : State) : s.returnKeepFlags.sp = s.sp + 4 := rfl
@[simp] theorem State.returnKeepFlags_cf (s : State) : s.returnKeepFlags.cf = s.cf := rfl
@[simp] theorem State.returnKeepFlags_zf (s : State) : s.returnKeepFlags.zf = s.zf := rfl
@[simp] theorem State.returnKeepFlags_f (s : State) : s.returnKeepFlags.f = s.f := rfl
@[simp] theorem State.returnKeepFlags_mse (s : State) : s.returnKeepFlags.mse = s.mse := rfl
@[simp] theorem State.returnKeepFlags_edih (s : State) : s.returnKeepFlags.edih = s.edih := rfl
@[simp] theorem State.returnKeepFlags_edil (s : State) : s.returnKeepFlags.edil = s.edil := rfl
@[simp] theorem State.returnKeepFlags_bnk (s : State) : s.returnKeepFlags.bnk = false := rfl
@[simp] theorem State.returnKeepFlags_lsk (s : State) : s.returnKeepFlags.lsk = false := rfl
@[simp] theorem State.returnKeepFlags_mode (s : State) : s.returnKeepFlags.mode = s.mode := rfl
@[simp] theorem State.returnKeepFlags_ram (s : State) : s.returnKeepFlags.ram = s.ram := rfl
@[simp] theorem State.returnKeepFlags_rom (s : State) : s.returnKeepFlags.rom = s.rom := rfl
@[simp] theorem State.returnKeepFlags_latch (s : State) : s.returnKeepFlags.latch = s.latch := rfl
@[simp] theorem State.returnKeepFlags_ctl (s : State) : s.returnKeepFlags.ctl = s.ctl := rfl
@[simp] theorem State.returnKeepFlags_t0Reload (s : State) : s.returnKeepFlags.t0Reload = s.t0Reload := rfl
@[simp] theorem State.returnKeepFlags_t0Count (s : State) : s.returnKeepFlags.t0Count = s.t0Count := rfl
@[simp] theorem State.returnKeepFlags_t0Run (s : State) : s.returnKeepFlags.t0Run = s.t0Run := rfl
@[simp] theorem State.returnKeepFlags_t1ReloadA (s : State) : s.returnKeepFlags.t1ReloadA = s.t1ReloadA := rfl
@[simp] theorem State.returnKeepFlags_t1Count (s : State) : s.returnKeepFlags.t1Count = s.t1Count := rfl
@[simp] theorem State.returnKeepFlags_t1Run (s : State) : s.returnKeepFlags.t1Run = s.t1Run := rfl
@[simp] theorem State.returnKeepFlags_sio (s : State) : s.returnKeepFlags.sio = s.sio := rfl
@[simp] theorem State.returnKeepFlags_sioRun (s : State) : s.returnKeepFlags.sioRun = s.sioRun := rfl
@[simp] theorem State.returnKeepFlags_irqPending (s : State) : s.returnKeepFlags.irqPending = s.irqPending := rfl
@[simp] theorem State.returnKeepFlags_pins (s : State) : s.returnKeepFlags.pins = s.pins := rfl
@[simp] theorem State.returnKeepFlags_env (s : State) : s.returnKeepFlags.env = s.env := rfl
@[simp] theorem State.returnKeepFlags_draws (s : State) : s.returnKeepFlags.draws = s.draws := rfl
@[simp] theorem State.returnKeepFlags_ramEpoch (s : State) : s.returnKeepFlags.ramEpoch = s.ramEpoch := rfl
@[simp] theorem State.returnKeepFlags_phase (s : State) : s.returnKeepFlags.phase = s.phase := rfl
@[simp] theorem State.returnKeepFlags_inverters (s : State) : s.returnKeepFlags.inverters = s.inverters := rfl
@[simp] theorem State.returnKeepFlags_shared (s : State) : s.returnKeepFlags.shared = s.shared := rfl
@[simp] theorem State.returnKeepFlags_typesSet (s : State) : s.returnKeepFlags.typesSet = s.typesSet := rfl

@[simp] theorem State.returnFromInterrupt_ac (s : State) : s.returnFromInterrupt.ac = s.ac := rfl
@[simp] theorem State.returnFromInterrupt_e (s : State) : s.returnFromInterrupt.e = s.e := rfl
@[simp] theorem State.returnFromInterrupt_dph (s : State) : s.returnFromInterrupt.dph = s.dph := rfl
@[simp] theorem State.returnFromInterrupt_dpl (s : State) : s.returnFromInterrupt.dpl = s.dpl := rfl
@[simp] theorem State.returnFromInterrupt_dpx (s : State) : s.returnFromInterrupt.dpx = s.dpx := rfl
@[simp] theorem State.returnFromInterrupt_dpy (s : State) : s.returnFromInterrupt.dpy = s.dpy := rfl
@[simp] theorem State.returnFromInterrupt_pc (s : State) : s.returnFromInterrupt.pc = s.topFrame.extractLsb' 0 14 := rfl
@[simp] theorem State.returnFromInterrupt_sp (s : State) : s.returnFromInterrupt.sp = s.sp + 4 := rfl
@[simp] theorem State.returnFromInterrupt_cf (s : State) : s.returnFromInterrupt.cf = s.topFrame.getLsbD 15 := rfl
@[simp] theorem State.returnFromInterrupt_zf (s : State) : s.returnFromInterrupt.zf = s.topFrame.getLsbD 14 := rfl
@[simp] theorem State.returnFromInterrupt_f (s : State) : s.returnFromInterrupt.f = s.f := rfl
@[simp] theorem State.returnFromInterrupt_mse (s : State) : s.returnFromInterrupt.mse = mseAfterRti Params.rtiMse s.mse := rfl
@[simp] theorem State.returnFromInterrupt_edih (s : State) : s.returnFromInterrupt.edih = s.edih := rfl
@[simp] theorem State.returnFromInterrupt_edil (s : State) : s.returnFromInterrupt.edil = s.edil := rfl
@[simp] theorem State.returnFromInterrupt_bnk (s : State) : s.returnFromInterrupt.bnk = false := rfl
@[simp] theorem State.returnFromInterrupt_lsk (s : State) : s.returnFromInterrupt.lsk = false := rfl
@[simp] theorem State.returnFromInterrupt_mode (s : State) : s.returnFromInterrupt.mode = s.mode := rfl
@[simp] theorem State.returnFromInterrupt_ram (s : State) : s.returnFromInterrupt.ram = s.ram := rfl
@[simp] theorem State.returnFromInterrupt_rom (s : State) : s.returnFromInterrupt.rom = s.rom := rfl
@[simp] theorem State.returnFromInterrupt_latch (s : State) : s.returnFromInterrupt.latch = s.latch := rfl
@[simp] theorem State.returnFromInterrupt_ctl (s : State) : s.returnFromInterrupt.ctl = s.ctl := rfl
@[simp] theorem State.returnFromInterrupt_t0Reload (s : State) : s.returnFromInterrupt.t0Reload = s.t0Reload := rfl
@[simp] theorem State.returnFromInterrupt_t0Count (s : State) : s.returnFromInterrupt.t0Count = s.t0Count := rfl
@[simp] theorem State.returnFromInterrupt_t0Run (s : State) : s.returnFromInterrupt.t0Run = s.t0Run := rfl
@[simp] theorem State.returnFromInterrupt_t1ReloadA (s : State) : s.returnFromInterrupt.t1ReloadA = s.t1ReloadA := rfl
@[simp] theorem State.returnFromInterrupt_t1Count (s : State) : s.returnFromInterrupt.t1Count = s.t1Count := rfl
@[simp] theorem State.returnFromInterrupt_t1Run (s : State) : s.returnFromInterrupt.t1Run = s.t1Run := rfl
@[simp] theorem State.returnFromInterrupt_sio (s : State) : s.returnFromInterrupt.sio = s.sio := rfl
@[simp] theorem State.returnFromInterrupt_sioRun (s : State) : s.returnFromInterrupt.sioRun = s.sioRun := rfl
@[simp] theorem State.returnFromInterrupt_irqPending (s : State) : s.returnFromInterrupt.irqPending = s.irqPending := rfl
@[simp] theorem State.returnFromInterrupt_pins (s : State) : s.returnFromInterrupt.pins = s.pins := rfl
@[simp] theorem State.returnFromInterrupt_env (s : State) : s.returnFromInterrupt.env = s.env := rfl
@[simp] theorem State.returnFromInterrupt_draws (s : State) : s.returnFromInterrupt.draws = s.draws := rfl
@[simp] theorem State.returnFromInterrupt_ramEpoch (s : State) : s.returnFromInterrupt.ramEpoch = s.ramEpoch := rfl
@[simp] theorem State.returnFromInterrupt_phase (s : State) : s.returnFromInterrupt.phase = s.phase := rfl
@[simp] theorem State.returnFromInterrupt_inverters (s : State) : s.returnFromInterrupt.inverters = s.inverters := rfl
@[simp] theorem State.returnFromInterrupt_shared (s : State) : s.returnFromInterrupt.shared = s.shared := rfl
@[simp] theorem State.returnFromInterrupt_typesSet (s : State) : s.returnFromInterrupt.typesSet = s.typesSet := rfl

@[simp] theorem State.enterInterrupt_ac (s : State) (f : Fin 10) : (s.enterInterrupt f).ac = s.ac := by
  simp only [State.enterInterrupt, State.pushFrame_ac]
@[simp] theorem State.enterInterrupt_e (s : State) (f : Fin 10) : (s.enterInterrupt f).e = s.e := by
  simp only [State.enterInterrupt, State.pushFrame_e]
@[simp] theorem State.enterInterrupt_dph (s : State) (f : Fin 10) : (s.enterInterrupt f).dph = s.dph := by
  simp only [State.enterInterrupt, State.pushFrame_dph]
@[simp] theorem State.enterInterrupt_dpl (s : State) (f : Fin 10) : (s.enterInterrupt f).dpl = s.dpl := by
  simp only [State.enterInterrupt, State.pushFrame_dpl]
@[simp] theorem State.enterInterrupt_dpx (s : State) (f : Fin 10) : (s.enterInterrupt f).dpx = s.dpx := by
  simp only [State.enterInterrupt, State.pushFrame_dpx]
@[simp] theorem State.enterInterrupt_dpy (s : State) (f : Fin 10) : (s.enterInterrupt f).dpy = s.dpy := by
  simp only [State.enterInterrupt, State.pushFrame_dpy]
@[simp] theorem State.enterInterrupt_pc (s : State) (f : Fin 10) : (s.enterInterrupt f).pc = Config.vec (Config.factorVec f) := by
  simp only [State.enterInterrupt]
@[simp] theorem State.enterInterrupt_sp (s : State) (f : Fin 10) : (s.enterInterrupt f).sp = s.sp - 4 := by
  simp only [State.enterInterrupt, State.pushFrame_sp]
@[simp] theorem State.enterInterrupt_cf (s : State) (f : Fin 10) : (s.enterInterrupt f).cf = s.cf := by
  simp only [State.enterInterrupt, State.pushFrame_cf]
@[simp] theorem State.enterInterrupt_zf (s : State) (f : Fin 10) : (s.enterInterrupt f).zf = s.zf := by
  simp only [State.enterInterrupt, State.pushFrame_zf]
@[simp] theorem State.enterInterrupt_f (s : State) (f : Fin 10) : (s.enterInterrupt f).f = s.f := by
  simp only [State.enterInterrupt, State.pushFrame_f]
@[simp] theorem State.enterInterrupt_mse (s : State) (f : Fin 10) : (s.enterInterrupt f).mse = mseAfterEntry Params.entryMse s.mse := by
  simp only [State.enterInterrupt]
@[simp] theorem State.enterInterrupt_edih (s : State) (f : Fin 10) : (s.enterInterrupt f).edih = s.edih := by
  simp only [State.enterInterrupt, State.pushFrame_edih]
@[simp] theorem State.enterInterrupt_edil (s : State) (f : Fin 10) : (s.enterInterrupt f).edil = s.edil := by
  simp only [State.enterInterrupt, State.pushFrame_edil]
@[simp] theorem State.enterInterrupt_bnk (s : State) (f : Fin 10) : (s.enterInterrupt f).bnk = s.bnk := by
  simp only [State.enterInterrupt, State.pushFrame_bnk]
@[simp] theorem State.enterInterrupt_lsk (s : State) (f : Fin 10) : (s.enterInterrupt f).lsk = false := by
  simp only [State.enterInterrupt]
@[simp] theorem State.enterInterrupt_mode (s : State) (f : Fin 10) : (s.enterInterrupt f).mode = .run := by
  simp only [State.enterInterrupt]
@[simp] theorem State.enterInterrupt_ram (s : State) (f : Fin 10) : (s.enterInterrupt f).ram = (s.pushFrame s.pc).ram := by
  simp only [State.enterInterrupt]
@[simp] theorem State.enterInterrupt_rom (s : State) (f : Fin 10) : (s.enterInterrupt f).rom = s.rom := by
  simp only [State.enterInterrupt, State.pushFrame_rom]
@[simp] theorem State.enterInterrupt_latch (s : State) (f : Fin 10) : (s.enterInterrupt f).latch = s.latch := by
  simp only [State.enterInterrupt, State.pushFrame_latch]
@[simp] theorem State.enterInterrupt_ctl (s : State) (f : Fin 10) : (s.enterInterrupt f).ctl = s.ctl := by
  simp only [State.enterInterrupt, State.pushFrame_ctl]
@[simp] theorem State.enterInterrupt_t0Reload (s : State) (f : Fin 10) : (s.enterInterrupt f).t0Reload = s.t0Reload := by
  simp only [State.enterInterrupt, State.pushFrame_t0Reload]
@[simp] theorem State.enterInterrupt_t0Count (s : State) (f : Fin 10) : (s.enterInterrupt f).t0Count = s.t0Count := by
  simp only [State.enterInterrupt, State.pushFrame_t0Count]
@[simp] theorem State.enterInterrupt_t0Run (s : State) (f : Fin 10) : (s.enterInterrupt f).t0Run = s.t0Run := by
  simp only [State.enterInterrupt, State.pushFrame_t0Run]
@[simp] theorem State.enterInterrupt_t1ReloadA (s : State) (f : Fin 10) : (s.enterInterrupt f).t1ReloadA = s.t1ReloadA := by
  simp only [State.enterInterrupt, State.pushFrame_t1ReloadA]
@[simp] theorem State.enterInterrupt_t1Count (s : State) (f : Fin 10) : (s.enterInterrupt f).t1Count = s.t1Count := by
  simp only [State.enterInterrupt, State.pushFrame_t1Count]
@[simp] theorem State.enterInterrupt_t1Run (s : State) (f : Fin 10) : (s.enterInterrupt f).t1Run = s.t1Run := by
  simp only [State.enterInterrupt, State.pushFrame_t1Run]
@[simp] theorem State.enterInterrupt_sio (s : State) (f : Fin 10) : (s.enterInterrupt f).sio = s.sio := by
  simp only [State.enterInterrupt, State.pushFrame_sio]
@[simp] theorem State.enterInterrupt_sioRun (s : State) (f : Fin 10) : (s.enterInterrupt f).sioRun = s.sioRun := by
  simp only [State.enterInterrupt, State.pushFrame_sioRun]
@[simp] theorem State.enterInterrupt_irqPending (s : State) (f : Fin 10) : (s.enterInterrupt f).irqPending = s.irqPending &&& ~~~(1#10 <<< f.val) := by
  simp only [State.enterInterrupt]
@[simp] theorem State.enterInterrupt_pins (s : State) (f : Fin 10) : (s.enterInterrupt f).pins = s.pins := by
  simp only [State.enterInterrupt, State.pushFrame_pins]
@[simp] theorem State.enterInterrupt_env (s : State) (f : Fin 10) : (s.enterInterrupt f).env = s.env := by
  simp only [State.enterInterrupt, State.pushFrame_env]
@[simp] theorem State.enterInterrupt_draws (s : State) (f : Fin 10) : (s.enterInterrupt f).draws = s.draws := by
  simp only [State.enterInterrupt, State.pushFrame_draws]
@[simp] theorem State.enterInterrupt_ramEpoch (s : State) (f : Fin 10) : (s.enterInterrupt f).ramEpoch = s.ramEpoch := by
  simp only [State.enterInterrupt, State.pushFrame_ramEpoch]
@[simp] theorem State.enterInterrupt_phase (s : State) (f : Fin 10) : (s.enterInterrupt f).phase = s.phase := by
  simp only [State.enterInterrupt, State.pushFrame_phase]
@[simp] theorem State.enterInterrupt_inverters (s : State) (f : Fin 10) : (s.enterInterrupt f).inverters = s.inverters := by
  simp only [State.enterInterrupt, State.pushFrame_inverters]
@[simp] theorem State.enterInterrupt_shared (s : State) (f : Fin 10) : (s.enterInterrupt f).shared = s.shared := by
  simp only [State.enterInterrupt, State.pushFrame_shared]
@[simp] theorem State.enterInterrupt_typesSet (s : State) (f : Fin 10) : (s.enterInterrupt f).typesSet = s.typesSet := by
  simp only [State.enterInterrupt, State.pushFrame_typesSet]

@[simp] theorem State.setDpLow_hl (s : State) (p : Nibble) : s.setDpLow .hl p = { s with dpl := p } := rfl
@[simp] theorem State.setDpLow_xy (s : State) (p : Nibble) : s.setDpLow .xy p = { s with dpy := p } := rfl
@[simp] theorem State.setDpLow_ac (s : State) (r : Ptr) (p : Nibble) : (s.setDpLow r p).ac = s.ac := by
  cases r <;> rfl
@[simp] theorem State.setDpLow_e (s : State) (r : Ptr) (p : Nibble) : (s.setDpLow r p).e = s.e := by
  cases r <;> rfl
@[simp] theorem State.setDpLow_dph (s : State) (r : Ptr) (p : Nibble) : (s.setDpLow r p).dph = s.dph := by
  cases r <;> rfl
@[simp] theorem State.setDpLow_dpx (s : State) (r : Ptr) (p : Nibble) : (s.setDpLow r p).dpx = s.dpx := by
  cases r <;> rfl
@[simp] theorem State.setDpLow_pc (s : State) (r : Ptr) (p : Nibble) : (s.setDpLow r p).pc = s.pc := by
  cases r <;> rfl
@[simp] theorem State.setDpLow_sp (s : State) (r : Ptr) (p : Nibble) : (s.setDpLow r p).sp = s.sp := by
  cases r <;> rfl
@[simp] theorem State.setDpLow_cf (s : State) (r : Ptr) (p : Nibble) : (s.setDpLow r p).cf = s.cf := by
  cases r <;> rfl
@[simp] theorem State.setDpLow_zf (s : State) (r : Ptr) (p : Nibble) : (s.setDpLow r p).zf = s.zf := by
  cases r <;> rfl
@[simp] theorem State.setDpLow_f (s : State) (r : Ptr) (p : Nibble) : (s.setDpLow r p).f = s.f := by
  cases r <;> rfl
@[simp] theorem State.setDpLow_mse (s : State) (r : Ptr) (p : Nibble) : (s.setDpLow r p).mse = s.mse := by
  cases r <;> rfl
@[simp] theorem State.setDpLow_edih (s : State) (r : Ptr) (p : Nibble) : (s.setDpLow r p).edih = s.edih := by
  cases r <;> rfl
@[simp] theorem State.setDpLow_edil (s : State) (r : Ptr) (p : Nibble) : (s.setDpLow r p).edil = s.edil := by
  cases r <;> rfl
@[simp] theorem State.setDpLow_bnk (s : State) (r : Ptr) (p : Nibble) : (s.setDpLow r p).bnk = s.bnk := by
  cases r <;> rfl
@[simp] theorem State.setDpLow_lsk (s : State) (r : Ptr) (p : Nibble) : (s.setDpLow r p).lsk = s.lsk := by
  cases r <;> rfl
@[simp] theorem State.setDpLow_mode (s : State) (r : Ptr) (p : Nibble) : (s.setDpLow r p).mode = s.mode := by
  cases r <;> rfl
@[simp] theorem State.setDpLow_ram (s : State) (r : Ptr) (p : Nibble) : (s.setDpLow r p).ram = s.ram := by
  cases r <;> rfl
@[simp] theorem State.setDpLow_rom (s : State) (r : Ptr) (p : Nibble) : (s.setDpLow r p).rom = s.rom := by
  cases r <;> rfl
@[simp] theorem State.setDpLow_latch (s : State) (r : Ptr) (p : Nibble) : (s.setDpLow r p).latch = s.latch := by
  cases r <;> rfl
@[simp] theorem State.setDpLow_ctl (s : State) (r : Ptr) (p : Nibble) : (s.setDpLow r p).ctl = s.ctl := by
  cases r <;> rfl
@[simp] theorem State.setDpLow_t0Reload (s : State) (r : Ptr) (p : Nibble) : (s.setDpLow r p).t0Reload = s.t0Reload := by
  cases r <;> rfl
@[simp] theorem State.setDpLow_t0Count (s : State) (r : Ptr) (p : Nibble) : (s.setDpLow r p).t0Count = s.t0Count := by
  cases r <;> rfl
@[simp] theorem State.setDpLow_t0Run (s : State) (r : Ptr) (p : Nibble) : (s.setDpLow r p).t0Run = s.t0Run := by
  cases r <;> rfl
@[simp] theorem State.setDpLow_t1ReloadA (s : State) (r : Ptr) (p : Nibble) : (s.setDpLow r p).t1ReloadA = s.t1ReloadA := by
  cases r <;> rfl
@[simp] theorem State.setDpLow_t1Count (s : State) (r : Ptr) (p : Nibble) : (s.setDpLow r p).t1Count = s.t1Count := by
  cases r <;> rfl
@[simp] theorem State.setDpLow_t1Run (s : State) (r : Ptr) (p : Nibble) : (s.setDpLow r p).t1Run = s.t1Run := by
  cases r <;> rfl
@[simp] theorem State.setDpLow_sio (s : State) (r : Ptr) (p : Nibble) : (s.setDpLow r p).sio = s.sio := by
  cases r <;> rfl
@[simp] theorem State.setDpLow_sioRun (s : State) (r : Ptr) (p : Nibble) : (s.setDpLow r p).sioRun = s.sioRun := by
  cases r <;> rfl
@[simp] theorem State.setDpLow_irqPending (s : State) (r : Ptr) (p : Nibble) : (s.setDpLow r p).irqPending = s.irqPending := by
  cases r <;> rfl
@[simp] theorem State.setDpLow_pins (s : State) (r : Ptr) (p : Nibble) : (s.setDpLow r p).pins = s.pins := by
  cases r <;> rfl
@[simp] theorem State.setDpLow_env (s : State) (r : Ptr) (p : Nibble) : (s.setDpLow r p).env = s.env := by
  cases r <;> rfl
@[simp] theorem State.setDpLow_draws (s : State) (r : Ptr) (p : Nibble) : (s.setDpLow r p).draws = s.draws := by
  cases r <;> rfl
@[simp] theorem State.setDpLow_ramEpoch (s : State) (r : Ptr) (p : Nibble) : (s.setDpLow r p).ramEpoch = s.ramEpoch := by
  cases r <;> rfl
@[simp] theorem State.setDpLow_phase (s : State) (r : Ptr) (p : Nibble) : (s.setDpLow r p).phase = s.phase := by
  cases r <;> rfl
@[simp] theorem State.setDpLow_inverters (s : State) (r : Ptr) (p : Nibble) : (s.setDpLow r p).inverters = s.inverters := by
  cases r <;> rfl
@[simp] theorem State.setDpLow_shared (s : State) (r : Ptr) (p : Nibble) : (s.setDpLow r p).shared = s.shared := by
  cases r <;> rfl
@[simp] theorem State.setDpLow_typesSet (s : State) (r : Ptr) (p : Nibble) : (s.setDpLow r p).typesSet = s.typesSet := by
  cases r <;> rfl
@[simp] theorem State.stepPointer_eq (s : State) (r : Ptr) (p : Nibble) :
    s.stepPointer r p = { s.setDpLow r p with zf := isZero p } := rfl

/-- A branch changes PC and clears the two latches, and nothing else. -/
theorem State.branch_eq (s : State) (cond : Bool) (p : Byte) :
    s.branch cond p = { s.advance 2 with pc := if cond then keptPage s.pc (s.pc + 2) ++ p else s.pc + 2 } := by
  cases cond <;> rfl

/-- A port write changes the latches or the recorded control registers, and nothing else. -/
theorem State.portWrite_eq (t : State) (b : Bool) (n v : Nibble) :
    t.portWrite b n v = { t with latch := (t.portWrite b n v).latch, ctl := (t.portWrite b n v).ctl } := by
  unfold State.portWrite
  cases b
  · cases portOf n <;> rfl
  · rfl

/-- What a boundary leaves alone, and what it sets to the environment's values. -/
theorem State.boundary_eq (s : State) :
    s.boundary = { s with
      pins := s.sampledPins, env := s.env.tail, draws := s.draws + 1, t0Count := s.boundary.t0Count,
      t1Count := s.boundary.t1Count, sio := s.boundary.sio, sioRun := s.boundary.sioRun,
      irqPending := s.boundary.irqPending, inverters := s.boundary.inverters,
      shared := s.boundary.shared,
      typesSet := s.boundary.typesSet } := by
  unfold State.boundary
  split <;> rfl

@[simp] theorem State.boundary_ac (s : State) : s.boundary.ac = s.ac := by
  unfold State.boundary; split <;> rfl
@[simp] theorem State.boundary_e (s : State) : s.boundary.e = s.e := by
  unfold State.boundary; split <;> rfl
@[simp] theorem State.boundary_dph (s : State) : s.boundary.dph = s.dph := by
  unfold State.boundary; split <;> rfl
@[simp] theorem State.boundary_dpl (s : State) : s.boundary.dpl = s.dpl := by
  unfold State.boundary; split <;> rfl
@[simp] theorem State.boundary_dpx (s : State) : s.boundary.dpx = s.dpx := by
  unfold State.boundary; split <;> rfl
@[simp] theorem State.boundary_dpy (s : State) : s.boundary.dpy = s.dpy := by
  unfold State.boundary; split <;> rfl
@[simp] theorem State.boundary_pc (s : State) : s.boundary.pc = s.pc := by
  unfold State.boundary; split <;> rfl
@[simp] theorem State.boundary_sp (s : State) : s.boundary.sp = s.sp := by
  unfold State.boundary; split <;> rfl
@[simp] theorem State.boundary_cf (s : State) : s.boundary.cf = s.cf := by
  unfold State.boundary; split <;> rfl
@[simp] theorem State.boundary_zf (s : State) : s.boundary.zf = s.zf := by
  unfold State.boundary; split <;> rfl
@[simp] theorem State.boundary_f (s : State) : s.boundary.f = s.f := by
  unfold State.boundary; split <;> rfl
@[simp] theorem State.boundary_mse (s : State) : s.boundary.mse = s.mse := by
  unfold State.boundary; split <;> rfl
@[simp] theorem State.boundary_edih (s : State) : s.boundary.edih = s.edih := by
  unfold State.boundary; split <;> rfl
@[simp] theorem State.boundary_edil (s : State) : s.boundary.edil = s.edil := by
  unfold State.boundary; split <;> rfl
@[simp] theorem State.boundary_bnk (s : State) : s.boundary.bnk = s.bnk := by
  unfold State.boundary; split <;> rfl
@[simp] theorem State.boundary_lsk (s : State) : s.boundary.lsk = s.lsk := by
  unfold State.boundary; split <;> rfl
@[simp] theorem State.boundary_mode (s : State) : s.boundary.mode = s.mode := by
  unfold State.boundary; split <;> rfl
@[simp] theorem State.boundary_ram (s : State) : s.boundary.ram = s.ram := by
  unfold State.boundary; split <;> rfl
@[simp] theorem State.boundary_rom (s : State) : s.boundary.rom = s.rom := by
  unfold State.boundary; split <;> rfl
@[simp] theorem State.boundary_latch (s : State) : s.boundary.latch = s.latch := by
  unfold State.boundary; split <;> rfl
@[simp] theorem State.boundary_ctl (s : State) : s.boundary.ctl = s.ctl := by
  unfold State.boundary; split <;> rfl
@[simp] theorem State.boundary_t0Reload (s : State) : s.boundary.t0Reload = s.t0Reload := by
  unfold State.boundary; split <;> rfl
@[simp] theorem State.boundary_t0Run (s : State) : s.boundary.t0Run = s.t0Run := by
  unfold State.boundary; split <;> rfl
@[simp] theorem State.boundary_t1ReloadA (s : State) : s.boundary.t1ReloadA = s.t1ReloadA := by
  unfold State.boundary; split <;> rfl
@[simp] theorem State.boundary_t1Run (s : State) : s.boundary.t1Run = s.t1Run := by
  unfold State.boundary; split <;> rfl
@[simp] theorem State.boundary_ramEpoch (s : State) : s.boundary.ramEpoch = s.ramEpoch := by
  unfold State.boundary; split <;> rfl
@[simp] theorem State.boundary_phase (s : State) : s.boundary.phase = s.phase := by
  unfold State.boundary; split <;> rfl
@[simp] theorem State.boundary_pins (s : State) : s.boundary.pins = s.sampledPins := by
  unfold State.boundary; split <;> rfl
@[simp] theorem State.boundary_env (s : State) : s.boundary.env = s.env.tail := by
  unfold State.boundary; split <;> rfl
@[simp] theorem State.boundary_draws (s : State) : s.boundary.draws = s.draws + 1 := by
  unfold State.boundary; split <;> rfl
@[simp] theorem State.portWrite_ac (t : State) (b : Bool) (n v : Nibble) : (t.portWrite b n v).ac = t.ac := by
  unfold State.portWrite; split
  · rfl
  · split <;> rfl
@[simp] theorem State.portWrite_e (t : State) (b : Bool) (n v : Nibble) : (t.portWrite b n v).e = t.e := by
  unfold State.portWrite; split
  · rfl
  · split <;> rfl
@[simp] theorem State.portWrite_dph (t : State) (b : Bool) (n v : Nibble) : (t.portWrite b n v).dph = t.dph := by
  unfold State.portWrite; split
  · rfl
  · split <;> rfl
@[simp] theorem State.portWrite_dpl (t : State) (b : Bool) (n v : Nibble) : (t.portWrite b n v).dpl = t.dpl := by
  unfold State.portWrite; split
  · rfl
  · split <;> rfl
@[simp] theorem State.portWrite_dpx (t : State) (b : Bool) (n v : Nibble) : (t.portWrite b n v).dpx = t.dpx := by
  unfold State.portWrite; split
  · rfl
  · split <;> rfl
@[simp] theorem State.portWrite_dpy (t : State) (b : Bool) (n v : Nibble) : (t.portWrite b n v).dpy = t.dpy := by
  unfold State.portWrite; split
  · rfl
  · split <;> rfl
@[simp] theorem State.portWrite_pc (t : State) (b : Bool) (n v : Nibble) : (t.portWrite b n v).pc = t.pc := by
  unfold State.portWrite; split
  · rfl
  · split <;> rfl
@[simp] theorem State.portWrite_sp (t : State) (b : Bool) (n v : Nibble) : (t.portWrite b n v).sp = t.sp := by
  unfold State.portWrite; split
  · rfl
  · split <;> rfl
@[simp] theorem State.portWrite_cf (t : State) (b : Bool) (n v : Nibble) : (t.portWrite b n v).cf = t.cf := by
  unfold State.portWrite; split
  · rfl
  · split <;> rfl
@[simp] theorem State.portWrite_zf (t : State) (b : Bool) (n v : Nibble) : (t.portWrite b n v).zf = t.zf := by
  unfold State.portWrite; split
  · rfl
  · split <;> rfl
@[simp] theorem State.portWrite_f (t : State) (b : Bool) (n v : Nibble) : (t.portWrite b n v).f = t.f := by
  unfold State.portWrite; split
  · rfl
  · split <;> rfl
@[simp] theorem State.portWrite_mse (t : State) (b : Bool) (n v : Nibble) : (t.portWrite b n v).mse = t.mse := by
  unfold State.portWrite; split
  · rfl
  · split <;> rfl
@[simp] theorem State.portWrite_edih (t : State) (b : Bool) (n v : Nibble) : (t.portWrite b n v).edih = t.edih := by
  unfold State.portWrite; split
  · rfl
  · split <;> rfl
@[simp] theorem State.portWrite_edil (t : State) (b : Bool) (n v : Nibble) : (t.portWrite b n v).edil = t.edil := by
  unfold State.portWrite; split
  · rfl
  · split <;> rfl
@[simp] theorem State.portWrite_bnk (t : State) (b : Bool) (n v : Nibble) : (t.portWrite b n v).bnk = t.bnk := by
  unfold State.portWrite; split
  · rfl
  · split <;> rfl
@[simp] theorem State.portWrite_lsk (t : State) (b : Bool) (n v : Nibble) : (t.portWrite b n v).lsk = t.lsk := by
  unfold State.portWrite; split
  · rfl
  · split <;> rfl
@[simp] theorem State.portWrite_mode (t : State) (b : Bool) (n v : Nibble) : (t.portWrite b n v).mode = t.mode := by
  unfold State.portWrite; split
  · rfl
  · split <;> rfl
@[simp] theorem State.portWrite_ram (t : State) (b : Bool) (n v : Nibble) : (t.portWrite b n v).ram = t.ram := by
  unfold State.portWrite; split
  · rfl
  · split <;> rfl
@[simp] theorem State.portWrite_rom (t : State) (b : Bool) (n v : Nibble) : (t.portWrite b n v).rom = t.rom := by
  unfold State.portWrite; split
  · rfl
  · split <;> rfl
@[simp] theorem State.portWrite_t0Reload (t : State) (b : Bool) (n v : Nibble) : (t.portWrite b n v).t0Reload = t.t0Reload := by
  unfold State.portWrite; split
  · rfl
  · split <;> rfl
@[simp] theorem State.portWrite_t0Count (t : State) (b : Bool) (n v : Nibble) : (t.portWrite b n v).t0Count = t.t0Count := by
  unfold State.portWrite; split
  · rfl
  · split <;> rfl
@[simp] theorem State.portWrite_t0Run (t : State) (b : Bool) (n v : Nibble) : (t.portWrite b n v).t0Run = t.t0Run := by
  unfold State.portWrite; split
  · rfl
  · split <;> rfl
@[simp] theorem State.portWrite_t1ReloadA (t : State) (b : Bool) (n v : Nibble) : (t.portWrite b n v).t1ReloadA = t.t1ReloadA := by
  unfold State.portWrite; split
  · rfl
  · split <;> rfl
@[simp] theorem State.portWrite_t1Count (t : State) (b : Bool) (n v : Nibble) : (t.portWrite b n v).t1Count = t.t1Count := by
  unfold State.portWrite; split
  · rfl
  · split <;> rfl
@[simp] theorem State.portWrite_t1Run (t : State) (b : Bool) (n v : Nibble) : (t.portWrite b n v).t1Run = t.t1Run := by
  unfold State.portWrite; split
  · rfl
  · split <;> rfl
@[simp] theorem State.portWrite_sio (t : State) (b : Bool) (n v : Nibble) : (t.portWrite b n v).sio = t.sio := by
  unfold State.portWrite; split
  · rfl
  · split <;> rfl
@[simp] theorem State.portWrite_sioRun (t : State) (b : Bool) (n v : Nibble) : (t.portWrite b n v).sioRun = t.sioRun := by
  unfold State.portWrite; split
  · rfl
  · split <;> rfl
@[simp] theorem State.portWrite_irqPending (t : State) (b : Bool) (n v : Nibble) : (t.portWrite b n v).irqPending = t.irqPending := by
  unfold State.portWrite; split
  · rfl
  · split <;> rfl
@[simp] theorem State.portWrite_pins (t : State) (b : Bool) (n v : Nibble) : (t.portWrite b n v).pins = t.pins := by
  unfold State.portWrite; split
  · rfl
  · split <;> rfl
@[simp] theorem State.portWrite_env (t : State) (b : Bool) (n v : Nibble) : (t.portWrite b n v).env = t.env := by
  unfold State.portWrite; split
  · rfl
  · split <;> rfl
@[simp] theorem State.portWrite_draws (t : State) (b : Bool) (n v : Nibble) : (t.portWrite b n v).draws = t.draws := by
  unfold State.portWrite; split
  · rfl
  · split <;> rfl
@[simp] theorem State.portWrite_ramEpoch (t : State) (b : Bool) (n v : Nibble) : (t.portWrite b n v).ramEpoch = t.ramEpoch := by
  unfold State.portWrite; split
  · rfl
  · split <;> rfl
@[simp] theorem State.portWrite_phase (t : State) (b : Bool) (n v : Nibble) : (t.portWrite b n v).phase = t.phase := by
  unfold State.portWrite; split
  · rfl
  · split <;> rfl
@[simp] theorem State.portWrite_inverters (t : State) (b : Bool) (n v : Nibble) : (t.portWrite b n v).inverters = t.inverters := by
  unfold State.portWrite; split
  · rfl
  · split <;> rfl
@[simp] theorem State.portWrite_shared (t : State) (b : Bool) (n v : Nibble) : (t.portWrite b n v).shared = t.shared := by
  unfold State.portWrite; split
  · rfl
  · split <;> rfl
@[simp] theorem State.portWrite_typesSet (t : State) (b : Bool) (n v : Nibble) : (t.portWrite b n v).typesSet = t.typesSet := by
  unfold State.portWrite; split
  · rfl
  · split <;> rfl
@[simp] theorem State.portWrite_false_ctl (t : State) (n v : Nibble) : (t.portWrite false n v).ctl = t.ctl := by
  unfold State.portWrite; cases portOf n <;> rfl
@[simp] theorem State.portWrite_true_latch (t : State) (n v : Nibble) : (t.portWrite true n v).latch = t.latch := rfl

/-! ### The stack operations as one update -/

theorem State.pushPair_eq (s : State) (v : Byte) :
    s.pushPair v = { s with sp := s.sp - 2, ram := (s.pushPair v).ram } := by
  simp only [State.pushPair, State.writeWord]

theorem State.pushFrame_eq (s : State) (ret : RomAddr) :
    s.pushFrame ret = { s with sp := s.sp - 4, ram := (s.pushFrame ret).ram } := by
  simp only [State.pushFrame, State.writeWord]

theorem State.call_eq (s : State) (len target : RomAddr) :
    s.call len target =
      { s.advance len with pc := target, sp := s.sp - 4, ram := ((s.advance len).pushFrame (s.pc + len)).ram } := by
  simp only [State.call, State.advance, State.pushFrame, State.writeWord]

theorem State.enterInterrupt_eq (s : State) (f : Fin 10) :
    s.enterInterrupt f =
      { s with
        ram := (s.pushFrame s.pc).ram, sp := s.sp - 4, irqPending := s.irqPending &&& ~~~(1#10 <<< f.val),
        pc := Config.vec (Config.factorVec f), mse := mseAfterEntry Params.entryMse s.mse, lsk := false,
        mode := .run } := by
  simp only [State.enterInterrupt, State.pushFrame, State.writeWord]

end Sys2Proof.Machine
end

