-- ==== Sys2Proof/Laws/Ops.lean ====
section
/-!
SUPPORT. For each shared operation, one lemma that says all it can do, cited instead of unfolding the operation.
-/

namespace Sys2Proof.Machine

/-! ### Operands -/

/-- The page kept is that of the instruction or of the address after it. -/
theorem keptPage_or (own npc : RomAddr) :
    keptPage own npc = own.extractLsb' 8 6 ∨ keptPage own npc = npc.extractLsb' 8 6 := by
  unfold keptPage
  split
  · exact .inr rfl
  · split
    · exact .inr rfl
    · exact .inl rfl

/-- Away from a page end there is no choice (93 U5). -/
theorem keptPage_same (own npc : RomAddr) (h : own.extractLsb' 8 6 = npc.extractLsb' 8 6) :
    keptPage own npc = npc.extractLsb' 8 6 := if_pos h

/-- The bank kept is that of the instruction or of the address after it. -/
theorem keptBank_or (own npc : RomAddr) :
    keptBank own npc = own.extractLsb' 12 2 ∨ keptBank own npc = npc.extractLsb' 12 2 := by
  unfold keptBank
  split
  · exact .inr rfl
  · split
    · exact .inr rfl
    · exact .inl rfl

/-- Away from a bank end there is no choice (93 U5). -/
theorem keptBank_same (own npc : RomAddr) (h : own.extractLsb' 12 2 = npc.extractLsb' 12 2) :
    keptBank own npc = npc.extractLsb' 12 2 := if_pos h

theorem stackAddr_inj (a b : Byte) : stackAddr a = stackAddr b ↔ a = b := by
  constructor
  · intro h
    have : (stackAddr a).toNat = (stackAddr b).toNat := by rw [h]
    simp only [stackAddr, Params.stackBank, BitVec.toNat_append, BitVec.toNat_ofNat] at this
    exact BitVec.eq_of_toNat_eq (by simpa using this)
  · rintro rfl; rfl

/-! ### Words of data memory -/

@[simp] theorem State.readWord_advance (s : State) (len : RomAddr) (b : RamAddr) :
    (s.advance len).readWord b = s.readWord b := rfl

@[simp] theorem State.readWord_storeAt (s : State) (len : RomAddr) (a b : RamAddr) (v : Nibble) :
    (s.storeAt len a v).readWord b = if b = a then v else s.readWord b :=
  State.readWord_writeWord _ a b v

/-- All that PUSH does to data memory. -/
theorem State.readWord_pushPair (s : State) (v : Byte) (b : RamAddr) :
    (s.pushPair v).readWord b =
      if b = stackAddr s.sp then hiNib v
      else if b = stackAddr (s.sp - 1) then loNib v
      else s.readWord b := by
  show ramWord (s.pushPair v).ram (s.pushPair v).ramEpoch b = _
  rw [State.pushPair_ram, State.pushPair_ramEpoch, ramWord_storeRam, ramWord_storeRam]
  rfl

theorem State.pushFrame_ram_eq (s : State) (ret : RomAddr) :
    (s.pushFrame ret).ram =
      storeRam (storeRam (storeRam (storeRam s.ram (stackAddr (s.sp - 3)) ((s.frame ret).extractLsb' 0 4))
        (stackAddr (s.sp - 2)) ((s.frame ret).extractLsb' 4 4)) (stackAddr (s.sp - 1)) ((s.frame ret).extractLsb' 8 4))
        (stackAddr s.sp) ((s.frame ret).extractLsb' 12 4) := by
  simp only [State.pushFrame, State.writeWord_ram]

/-- All that CAL, CZP and interrupt entry do to data memory. -/
theorem State.readWord_pushFrame (s : State) (ret : RomAddr) (b : RamAddr) :
    (s.pushFrame ret).readWord b =
      if b = stackAddr s.sp then (s.frame ret).extractLsb' 12 4
      else if b = stackAddr (s.sp - 1) then (s.frame ret).extractLsb' 8 4
      else if b = stackAddr (s.sp - 2) then (s.frame ret).extractLsb' 4 4
      else if b = stackAddr (s.sp - 3) then (s.frame ret).extractLsb' 0 4
      else s.readWord b := by
  show ramWord (s.pushFrame ret).ram (s.pushFrame ret).ramEpoch b = _
  rw [State.pushFrame_ram_eq, State.pushFrame_ramEpoch]
  simp only [ramWord_storeRam]
  rfl

theorem State.readWord_call (s : State) (len target : RomAddr) (b : RamAddr) :
    (s.call len target).readWord b = ((s.advance len).pushFrame (s.pc + len)).readWord b := by
  unfold State.readWord
  rw [State.call_ram, State.call_ramEpoch, State.pushFrame_ramEpoch, State.advance_ramEpoch]

theorem State.readWord_enterInterrupt (s : State) (f : Fin 10) (b : RamAddr) :
    (s.enterInterrupt f).readWord b = (s.pushFrame s.pc).readWord b := by
  unfold State.readWord
  rw [State.enterInterrupt_ram, State.enterInterrupt_ramEpoch, State.pushFrame_ramEpoch]

/-- The four words of a frame, put together, are the frame. -/
theorem frame_words (w : BitVec 16) :
    w.extractLsb' 12 4 ++ w.extractLsb' 8 4 ++ w.extractLsb' 4 4 ++ w.extractLsb' 0 4 = w := by
  have h1 : (w.extractLsb' 12 4 ++ w.extractLsb' 8 4 : BitVec 8) = w.extractLsb' 8 8 :=
    BitVec.extractLsb'_append_extractLsb'_eq_extractLsb' (by decide)
  have h2 : (w.extractLsb' 8 8 ++ w.extractLsb' 4 4 : BitVec 12) = w.extractLsb' 4 12 :=
    BitVec.extractLsb'_append_extractLsb'_eq_extractLsb' (by decide)
  have h3 : (w.extractLsb' 4 12 ++ w.extractLsb' 0 4 : BitVec 16) = w.extractLsb' 0 16 :=
    BitVec.extractLsb'_append_extractLsb'_eq_extractLsb' (by decide)
  rw [h1, h2, h3]
  exact BitVec.extractLsb'_eq_self

/-- What RT and RTI find in a frame. -/
theorem State.frame_pc (s : State) (ret : RomAddr) : (s.frame ret).extractLsb' 0 14 = ret := by
  ext i hi
  rw [BitVec.getElem_extractLsb', Nat.zero_add, State.frame, BitVec.getLsbD_append, if_pos hi, BitVec.getLsbD_eq_getElem hi]

theorem State.frame_cf (s : State) (ret : RomAddr) : (s.frame ret).getLsbD 15 = s.cf := by
  rw [State.frame, BitVec.getLsbD_append, BitVec.getLsbD_append]
  simp

theorem State.frame_zf (s : State) (ret : RomAddr) : (s.frame ret).getLsbD 14 = s.zf := by
  rw [State.frame, BitVec.getLsbD_append, BitVec.getLsbD_append]
  simp

/-! ### Operations that may stop -/

theorem evenThen_next (s t u : State) : evenThen s t = .next u ↔ s.dpl.getLsbD 0 = false ∧ u = t := by
  unfold evenThen
  cases s.dpl.getLsbD 0 <;> simp [eq_comm]

theorem portRead_bank (s : State) (n : Nibble) (h : s.bnk = true) :
    portRead s n = some (Config.freeControl s.draws n) := by simp [portRead, h]

theorem portRead_port (s : State) (n : Nibble) (h : s.bnk = false) :
    portRead s n = (portOf n).map (pinRead s) := by simp [portRead, h]

theorem inputThen_next (s : State) (n : Nibble) (k : Nibble → State) (u : State) :
    inputThen s n k = .next u ↔ ∃ v, portRead s n = some v ∧ u = k v := by
  unfold inputThen
  cases portRead s n <;> simp [eq_comm]

theorem outputTo_next (s : State) (len : RomAddr) (n v : Nibble) (u : State) :
    outputTo s len n v = .next u ↔
      (s.bnk = true ∨ (portOf n).isSome = true) ∧ u = (s.advance len).portWrite s.bnk n v := by
  have e : (s.bnk || (portOf n).isSome) = true ↔ s.bnk = true ∨ (portOf n).isSome = true := by simp
  unfold outputTo
  rw [← e]
  cases s.bnk || (portOf n).isSome
  · simp
  · simp only [if_true, true_and, Host.Outcome.next.injEq]
    exact eq_comm

theorem modifyPort_next (s : State) (len : RomAddr) (n : Nibble) (g : Nibble → Nibble) (k : Nibble → State → State)
    (u : State) :
    modifyPort s len n g k = .next u ↔
      ∃ old, rmwRead Params.rmwSource s n = some old ∧
        u = k (g old) ((s.advanceIo len).portWrite s.bnk n (g old)) := by
  unfold modifyPort
  cases rmwRead Params.rmwSource s n <;> simp [eq_comm]

theorem execIp45_next (s u : State) :
    execIp45 s = .next u ↔
      ∃ v4 v5, portRead s 4 = some v4 ∧ portRead s 5 = some v5 ∧ u = { s.advanceIo 2 with e := v4, ac := v5 } := by
  unfold execIp45
  cases portRead s 4 <;> simp [inputThen_next]

/-- With PORT_RMW_SOURCE = pin a read-modify-write reads what an input reads. -/
theorem rmwRead_eq (s : State) (n : Nibble) : rmwRead Params.rmwSource s n = portRead s n := rfl

/-! ### The vertical skip -/

theorem loadSkipping_skipped (s : State) (i4 : Nibble) (h : s.lsk = true) :
    loadSkipping Params.vskip s i4 = { s.advance 1 with lsk := true } := by
  simp [loadSkipping, Params.vskip, h]

theorem loadSkipping_loaded (s : State) (i4 : Nibble) (h : s.lsk = false) :
    loadSkipping Params.vskip s i4 = { s.advance 1 with ac := i4, zf := isZero i4, lsk := true } := by
  simp [loadSkipping, Params.vskip, h]

/-- Skipped or not, only AC, ZF, PC and the latches can change. -/
theorem loadSkipping_eq (s : State) (i4 : Nibble) :
    loadSkipping Params.vskip s i4 =
      { s.advance 1 with
        ac := if s.lsk then s.ac else i4, zf := if s.lsk then s.zf else isZero i4, lsk := true } := by
  cases h : s.lsk
  · rw [loadSkipping_loaded s i4 h]; rfl
  · rw [loadSkipping_skipped s i4 h]; rfl

/-! ### Port latches -/

/-- All that a write of a port's latch does. -/
theorem latchOf_latchWrite (l : Latches) (p q : Port) (v : Nibble) :
    latchOf (latchWrite l p v) q = if q = p then v &&& outputBits p else latchOf l q := by
  cases p <;> cases q <;> simp [latchOf, latchWrite, outputBits]

theorem State.portWrite_io (t : State) (n v : Nibble) (p : Port) (h : portOf n = some p) :
    t.portWrite false n v = { t with latch := latchWrite t.latch p v } := by
  simp [State.portWrite, h]

/-- A write keeps latch bits with no output pin at 0. -/
theorem latchesWf_latchWrite (l : Latches) (p : Port) (v : Nibble) (h : latchesWf l = true) :
    latchesWf (latchWrite l p v) = true := by
  have h3 : ∀ v : Nibble, v &&& 7#4 &&& 8#4 = 0 := by decide
  have hc : ∀ v : Nibble, v &&& 12#4 &&& 3#4 = 0 := by decide
  simp only [latchesWf, Bool.and_eq_true, beq_iff_eq] at *
  cases p <;> simp [latchWrite, outputBits, h, h3, hc]

theorem State.portWrite_control (t : State) (n v : Nibble) :
    t.portWrite true n v = { t with ctl := t.ctl.set n.toNat v n.isLt } := rfl

/-! ### Interrupts -/

theorem mem_candidates (s : State) (f : Fin 10) :
    f ∈ s.candidates ↔ s.irqPending.getLsbD f.val = true ∧ s.factorEnabled f = true := by
  simp [State.candidates, List.mem_finRange]

/-- The factor ranked first is a member, and no member ranks before it. -/
theorem firstRanked_spec (l : List (Fin 10)) :
    (l = [] ∧ firstRanked l = none) ∨
      ∃ f, firstRanked l = some f ∧ f ∈ l ∧ ∀ g ∈ l, Config.irqRank f ≤ Config.irqRank g := by
  induction l with
  | nil => exact .inl ⟨rfl, rfl⟩
  | cons a rest ih =>
    refine .inr ?_
    rcases ih with ⟨rfl, h⟩ | ⟨f, h, hm, hle⟩
    · exact ⟨a, by simp [firstRanked], by simp, by simp⟩
    · by_cases hr : Config.irqRank a ≤ Config.irqRank f
      · refine ⟨a, by simp [firstRanked, h, hr], by simp, ?_⟩
        intro g hg
        rcases List.mem_cons.1 hg with rfl | hg
        · exact le_rfl
        · exact hr.trans (hle g hg)
      · refine ⟨f, by simp [firstRanked, h, hr], List.mem_cons_of_mem _ hm, ?_⟩
        intro g hg
        rcases List.mem_cons.1 hg with rfl | hg
        · exact (not_le.1 hr).le
        · exact hle g hg

end Sys2Proof.Machine
end

