-- ==== Sys2Proof/Laws/PerInstr.lean ====
section
/-!
SUPPORT. The statements made per instruction, about the instruction as syntax.
-/

namespace Sys2Proof.Laws.EncodedLength

/-- The encoding has as many bytes as "Number of bytes" says, 1 or 2, and the first byte alone says how many
(30_encoding R101, R103). -/
def Statement (i : Instr) : Prop :=
  (encode i).length = i.length ∧ (i.length = 1 ∨ i.length = 2) ∧ (encode i).head?.bind lengthOf = some i.length

theorem cla : Statement (.cla) := by exact ⟨rfl, by decide, rfl⟩

theorem daa : Statement (.daa) := by exact ⟨rfl, by decide, rfl⟩

theorem das : Statement (.das) := by exact ⟨rfl, by decide, rfl⟩

theorem clc : Statement (.clc) := by exact ⟨rfl, by decide, rfl⟩

theorem stc : Statement (.stc) := by exact ⟨rfl, by decide, rfl⟩

theorem cma : Statement (.cma) := by exact ⟨rfl, by decide, rfl⟩

theorem ia : Statement (.ia) := by exact ⟨rfl, by decide, rfl⟩

theorem da : Statement (.da) := by exact ⟨rfl, by decide, rfl⟩

theorem rar : Statement (.rar) := by exact ⟨rfl, by decide, rfl⟩

theorem ral : Statement (.ral) := by exact ⟨rfl, by decide, rfl⟩

theorem tae : Statement (.tae) := by exact ⟨rfl, by decide, rfl⟩

theorem tea : Statement (.tea) := by exact ⟨rfl, by decide, rfl⟩

theorem xae : Statement (.xae) := by exact ⟨rfl, by decide, rfl⟩

theorem im : Statement (.im) := by exact ⟨rfl, by decide, rfl⟩

theorem dm : Statement (.dm) := by exact ⟨rfl, by decide, rfl⟩

theorem imdr (i8 : Byte) : Statement (.imdr i8) := by exact ⟨rfl, .inr rfl, rfl⟩

theorem dmdr (i8 : Byte) : Statement (.dmdr i8) := by exact ⟨rfl, .inr rfl, rfl⟩

theorem smb (t2 : BitVec 2) : Statement (.smb t2) := by unfold Statement; revert t2; decide

theorem rmb (t2 : BitVec 2) : Statement (.rmb t2) := by unfold Statement; revert t2; decide

theorem ad : Statement (.ad) := by exact ⟨rfl, by decide, rfl⟩

theorem addr (i8 : Byte) : Statement (.addr i8) := by exact ⟨rfl, .inr rfl, rfl⟩

theorem adc : Statement (.adc) := by exact ⟨rfl, by decide, rfl⟩

theorem adi (i4 : Nibble) : Statement (.adi i4) := by exact ⟨rfl, .inr rfl, rfl⟩

theorem subc : Statement (.subc) := by exact ⟨rfl, by decide, rfl⟩

theorem anda : Statement (.anda) := by exact ⟨rfl, by decide, rfl⟩

theorem ora : Statement (.ora) := by exact ⟨rfl, by decide, rfl⟩

theorem exl : Statement (.exl) := by exact ⟨rfl, by decide, rfl⟩

theorem andm : Statement (.andm) := by exact ⟨rfl, by decide, rfl⟩

theorem orm : Statement (.orm) := by exact ⟨rfl, by decide, rfl⟩

theorem cm : Statement (.cm) := by exact ⟨rfl, by decide, rfl⟩

theorem ci (i4 : Nibble) : Statement (.ci i4) := by exact ⟨rfl, .inr rfl, rfl⟩

theorem cli (i4 : Nibble) : Statement (.cli i4) := by exact ⟨rfl, .inr rfl, rfl⟩

theorem cmb (t2 : BitVec 2) : Statement (.cmb t2) := by exact ⟨rfl, .inr rfl, rfl⟩

theorem lae : Statement (.lae) := by exact ⟨rfl, by decide, rfl⟩

theorem lai (i4 : Nibble) : Statement (.lai i4) := by unfold Statement; revert i4; decide

theorem ladr (i8 : Byte) : Statement (.ladr i8) := by exact ⟨rfl, .inr rfl, rfl⟩

theorem st : Statement (.st) := by exact ⟨rfl, by decide, rfl⟩

theorem sae : Statement (.sae) := by exact ⟨rfl, by decide, rfl⟩

theorem la (r : Ptr) : Statement (.la r) := by unfold Statement; cases r <;> decide

theorem laI (r : Ptr) : Statement (.laI r) := by unfold Statement; cases r <;> decide

theorem laD (r : Ptr) : Statement (.laD r) := by unfold Statement; cases r <;> decide

theorem xa (r : Ptr) : Statement (.xa r) := by unfold Statement; cases r <;> decide

theorem xaI (r : Ptr) : Statement (.xaI r) := by unfold Statement; cases r <;> decide

theorem xaD (r : Ptr) : Statement (.xaD r) := by unfold Statement; cases r <;> decide

theorem xadr (i8 : Byte) : Statement (.xadr i8) := by exact ⟨rfl, .inr rfl, rfl⟩

theorem leai (i8 : Byte) : Statement (.leai i8) := by exact ⟨rfl, .inr rfl, rfl⟩

theorem rtbl : Statement (.rtbl) := by exact ⟨rfl, by decide, rfl⟩

theorem rtblp : Statement (.rtblp) := by exact ⟨rfl, by decide, rfl⟩

theorem ldz (i4 : Nibble) : Statement (.ldz i4) := by unfold Statement; revert i4; decide

theorem lhi (i4 : Nibble) : Statement (.lhi i4) := by exact ⟨rfl, .inr rfl, rfl⟩

theorem lli (i4 : Nibble) : Statement (.lli i4) := by exact ⟨rfl, .inr rfl, rfl⟩

theorem lhli (i8 : Byte) : Statement (.lhli i8) := by exact ⟨rfl, .inr rfl, rfl⟩

theorem lxyi (i8 : Byte) : Statement (.lxyi i8) := by exact ⟨rfl, .inr rfl, rfl⟩

theorem il : Statement (.il) := by exact ⟨rfl, by decide, rfl⟩

theorem dl : Statement (.dl) := by exact ⟨rfl, by decide, rfl⟩

theorem iy : Statement (.iy) := by exact ⟨rfl, by decide, rfl⟩

theorem dy : Statement (.dy) := by exact ⟨rfl, by decide, rfl⟩

theorem tah : Statement (.tah) := by exact ⟨rfl, by decide, rfl⟩

theorem tha : Statement (.tha) := by exact ⟨rfl, by decide, rfl⟩

theorem xah : Statement (.xah) := by exact ⟨rfl, by decide, rfl⟩

theorem tal : Statement (.tal) := by exact ⟨rfl, by decide, rfl⟩

theorem tla : Statement (.tla) := by exact ⟨rfl, by decide, rfl⟩

theorem xal : Statement (.xal) := by exact ⟨rfl, by decide, rfl⟩

theorem tax : Statement (.tax) := by exact ⟨rfl, by decide, rfl⟩

theorem txa : Statement (.txa) := by exact ⟨rfl, by decide, rfl⟩

theorem xax : Statement (.xax) := by exact ⟨rfl, by decide, rfl⟩

theorem tay : Statement (.tay) := by exact ⟨rfl, by decide, rfl⟩

theorem tya : Statement (.tya) := by exact ⟨rfl, by decide, rfl⟩

theorem xay : Statement (.xay) := by exact ⟨rfl, by decide, rfl⟩

theorem sfb (n4 : Nibble) : Statement (.sfb n4) := by unfold Statement; revert n4; decide

theorem rfb (n4 : Nibble) : Statement (.rfb n4) := by unfold Statement; revert n4; decide

theorem jmp (p : BitVec 12) : Statement (.jmp p) := by
  have h : ∀ q : BitVec 4, lengthOf (0b1110#4 ++ q) = some 2 := by decide
  exact ⟨rfl, .inr rfl, h _⟩

theorem jpea : Statement (.jpea) := by exact ⟨rfl, by decide, rfl⟩

theorem cal (p : BitVec 11) : Statement (.cal p) := by
  have h : ∀ q : BitVec 3, lengthOf (0b01010#5 ++ q) = some 2 := by decide
  exact ⟨rfl, .inr rfl, h _⟩

theorem czp (p : Nibble) : Statement (.czp p) := by unfold Statement; revert p; decide

theorem bank : Statement (.bank) := by exact ⟨rfl, by decide, rfl⟩

theorem pushHl : Statement (.pushHl) := by exact ⟨rfl, by decide, rfl⟩

theorem pushXy : Statement (.pushXy) := by exact ⟨rfl, by decide, rfl⟩

theorem pushAe : Statement (.pushAe) := by exact ⟨rfl, by decide, rfl⟩

theorem popHl : Statement (.popHl) := by exact ⟨rfl, by decide, rfl⟩

theorem popXy : Statement (.popXy) := by exact ⟨rfl, by decide, rfl⟩

theorem popAe : Statement (.popAe) := by exact ⟨rfl, by decide, rfl⟩

theorem rt : Statement (.rt) := by exact ⟨rfl, by decide, rfl⟩

theorem rti : Statement (.rti) := by exact ⟨rfl, by decide, rfl⟩

theorem ba (t2 : BitVec 2) (p : Byte) : Statement (.ba t2 p) := by
  have h : ∀ q : BitVec 2, lengthOf (0b110100#6 ++ q) = some 2 := by decide
  exact ⟨rfl, .inr rfl, h _⟩

theorem bna (t2 : BitVec 2) (p : Byte) : Statement (.bna t2 p) := by
  have h : ∀ q : BitVec 2, lengthOf (0b100100#6 ++ q) = some 2 := by decide
  exact ⟨rfl, .inr rfl, h _⟩

theorem bm (t2 : BitVec 2) (p : Byte) : Statement (.bm t2 p) := by
  have h : ∀ q : BitVec 2, lengthOf (0b110101#6 ++ q) = some 2 := by decide
  exact ⟨rfl, .inr rfl, h _⟩

theorem bnm (t2 : BitVec 2) (p : Byte) : Statement (.bnm t2 p) := by
  have h : ∀ q : BitVec 2, lengthOf (0b100101#6 ++ q) = some 2 := by decide
  exact ⟨rfl, .inr rfl, h _⟩

theorem bp (t2 : BitVec 2) (p : Byte) : Statement (.bp t2 p) := by
  have h : ∀ q : BitVec 2, lengthOf (0b110110#6 ++ q) = some 2 := by decide
  exact ⟨rfl, .inr rfl, h _⟩

theorem bnp (t2 : BitVec 2) (p : Byte) : Statement (.bnp t2 p) := by
  have h : ∀ q : BitVec 2, lengthOf (0b100110#6 ++ q) = some 2 := by decide
  exact ⟨rfl, .inr rfl, h _⟩

theorem bc (p : Byte) : Statement (.bc p) := by exact ⟨rfl, .inr rfl, rfl⟩

theorem bnc (p : Byte) : Statement (.bnc p) := by exact ⟨rfl, .inr rfl, rfl⟩

theorem bz (p : Byte) : Statement (.bz p) := by exact ⟨rfl, .inr rfl, rfl⟩

theorem bnz (p : Byte) : Statement (.bnz p) := by exact ⟨rfl, .inr rfl, rfl⟩

theorem bf (n4 : Nibble) (p : Byte) : Statement (.bf n4 p) := by
  have h : ∀ q : BitVec 4, lengthOf (0b1111#4 ++ q) = some 2 := by decide
  exact ⟨rfl, .inr rfl, h _⟩

theorem bnf (n4 : Nibble) (p : Byte) : Statement (.bnf n4 p) := by
  have h : ∀ q : BitVec 4, lengthOf (0b1011#4 ++ q) = some 2 := by decide
  exact ⟨rfl, .inr rfl, h _⟩

theorem ip0 : Statement (.ip0) := by exact ⟨rfl, by decide, rfl⟩

theorem ip : Statement (.ip) := by exact ⟨rfl, by decide, rfl⟩

theorem ipm : Statement (.ipm) := by exact ⟨rfl, by decide, rfl⟩

theorem ipdr (i4 : Nibble) : Statement (.ipdr i4) := by exact ⟨rfl, .inr rfl, rfl⟩

theorem ip45 : Statement (.ip45) := by exact ⟨rfl, by decide, rfl⟩

theorem op : Statement (.op) := by exact ⟨rfl, by decide, rfl⟩

theorem opm : Statement (.opm) := by exact ⟨rfl, by decide, rfl⟩

theorem opdr (i4 : Nibble) : Statement (.opdr i4) := by exact ⟨rfl, .inr rfl, rfl⟩

theorem op45 : Statement (.op45) := by exact ⟨rfl, by decide, rfl⟩

theorem spb (t2 : BitVec 2) : Statement (.spb t2) := by unfold Statement; revert t2; decide

theorem rpb (t2 : BitVec 2) : Statement (.rpb t2) := by unfold Statement; revert t2; decide

theorem andpdr (i4 : Nibble) (p4 : Nibble) : Statement (.andpdr i4 p4) := by exact ⟨rfl, .inr rfl, rfl⟩

theorem orpdr (i4 : Nibble) (p4 : Nibble) : Statement (.orpdr i4 p4) := by exact ⟨rfl, .inr rfl, rfl⟩

theorem wttm0 : Statement (.wttm0) := by exact ⟨rfl, by decide, rfl⟩

theorem wttm1 : Statement (.wttm1) := by exact ⟨rfl, by decide, rfl⟩

theorem rtim0 : Statement (.rtim0) := by exact ⟨rfl, by decide, rfl⟩

theorem rtim1 : Statement (.rtim1) := by exact ⟨rfl, by decide, rfl⟩

theorem start0 : Statement (.start0) := by exact ⟨rfl, by decide, rfl⟩

theorem start1 : Statement (.start1) := by exact ⟨rfl, by decide, rfl⟩

theorem stop0 : Statement (.stop0) := by exact ⟨rfl, by decide, rfl⟩

theorem stop1 : Statement (.stop1) := by exact ⟨rfl, by decide, rfl⟩

theorem mset : Statement (.mset) := by exact ⟨rfl, by decide, rfl⟩

theorem mreset : Statement (.mreset) := by exact ⟨rfl, by decide, rfl⟩

theorem eih (i4 : Nibble) : Statement (.eih i4) := by exact ⟨rfl, .inr rfl, rfl⟩

theorem eil (i4 : Nibble) : Statement (.eil i4) := by exact ⟨rfl, .inr rfl, rfl⟩

theorem dih (i4 : Nibble) : Statement (.dih i4) := by exact ⟨rfl, .inr rfl, rfl⟩

theorem dil (i4 : Nibble) : Statement (.dil i4) := by exact ⟨rfl, .inr rfl, rfl⟩

theorem wtsp : Statement (.wtsp) := by exact ⟨rfl, by decide, rfl⟩

theorem rsp : Statement (.rsp) := by exact ⟨rfl, by decide, rfl⟩

theorem halt : Statement (.halt) := by exact ⟨rfl, by decide, rfl⟩

theorem hold : Statement (.hold) := by exact ⟨rfl, by decide, rfl⟩

theorem starts : Statement (.starts) := by exact ⟨rfl, by decide, rfl⟩

theorem wtsio : Statement (.wtsio) := by exact ⟨rfl, by decide, rfl⟩

theorem rsio : Statement (.rsio) := by exact ⟨rfl, by decide, rfl⟩

theorem nop : Statement (.nop) := by exact ⟨rfl, by decide, rfl⟩

theorem sb (i2 : BitVec 2) : Statement (.sb i2) := by exact ⟨rfl, .inr rfl, rfl⟩

end Sys2Proof.Laws.EncodedLength
end

