-- ==== Sys2Proof/Laws/Step.lean ====
section
/-!
SUPPORT. What fetching and one step can do, said once.
-/

namespace Sys2Proof

/-- What the maps of one-byte codes answer is one byte long (30_encoding R105). -/
theorem decodeOne_length (b1 : Byte) (i : Instr) (h : decodeOne b1 = some i) : i.length = 1 := by
  unfold decodeOne decodeRow0 decodeRow1 decodeRow2 decodeRow4 decodeRow5 at h
  split at h <;> (try split at h) <;> cases h <;> rfl

/-- What the maps of two-byte codes answer is two bytes long (30_encoding R105 to R107). -/
theorem decodeTwo_length (b1 b2 : Byte) (i : Instr) (h : decodeTwo b1 b2 = some i) : i.length = 2 := by
  unfold decodeTwo decodeBranch decodeRowC decodeIntr decodeExt decodeExtD decodeExtE decodeExtF at h
  split at h <;> (try split at h) <;> (try split at h) <;> (try split at h) <;> (try split at h) <;> cases h <;> rfl

/-- A code is one byte or two bytes long (30_encoding R101). -/
theorem lengthOf_two {b1 : Byte} {n : Nat} (h : lengthOf b1 = some n) (hn : n ≠ 1) : n = 2 := by
  unfold lengthOf at h
  dsimp only at h
  split at h <;> (try split at h) <;> simp_all

/-- The first byte says how long the decoded instruction is (30_encoding R101). -/
theorem decode_length (b1 b2 : Byte) (i : Instr) (rest : List Byte) (h : decode [b1, b2] = .ok (i, rest)) :
    lengthOf b1 = some i.length := by
  unfold decode at h
  split at h
  · cases h
  · rename_i heq
    obtain ⟨rfl, rfl⟩ := List.cons.inj heq
    split at h
    · rename_i hl
      split at h
      · rename_i j hd
        obtain ⟨rfl, -⟩ := Prod.mk.inj (Except.ok.inj h)
        rw [hl, decodeOne_length b1 j hd]
      · cases h
    · rename_i n hn hl
      dsimp only at h
      split at h
      · rename_i j hd
        obtain ⟨rfl, -⟩ := Prod.mk.inj (Except.ok.inj h)
        rw [hl, decodeTwo_length b1 b2 j hd, lengthOf_two hl hn]
      · cases h
    · cases h

end Sys2Proof

namespace Sys2Proof.Machine

/-- When a fetch answers an instruction. -/
theorem State.fetch_ok (s : State) (i : Instr) :
    s.fetch = .ok i ↔
      inOptionArea s.pc = false ∧ (i.length = 2 → inOptionArea (s.pc + 1) = false) ∧
        ∃ rest, decode [romByte s.rom s.pc, romByte s.rom (s.pc + 1)] = .ok (i, rest) := by
  unfold State.fetch
  dsimp only
  have hl := decode_length (romByte s.rom s.pc) (romByte s.rom (s.pc + 1))
  revert hl
  generalize decode [romByte s.rom s.pc, romByte s.rom (s.pc + 1)] = d
  intro hl
  cases inOptionArea s.pc
  · simp only [Bool.false_eq_true, if_false, true_and]
    cases d with
    | error e => split <;> simp
    | ok p =>
      obtain ⟨j, rest⟩ := p
      rw [hl j rest rfl]
      by_cases h : j.length = 2 <;> cases inOptionArea (s.pc + 1) <;> simp [h] <;> aesop
  · simp

/-- When reset is taken at the boundary of `s`. -/
theorem resetTaken_boundary (s : State) :
    resetTaken s.event s.boundary = true ↔
      s.event.res = true ∧ s.sampledPins.p3.getLsbD 3 = true ∨
        s.event.watchdog = true ∧ watchdogPresent s.rom = true ∧ s.mode ≠ .hold := by
  simp [resetTaken, holdPin, and_assoc]

/-- What of a state reset keeps: program memory and the pins, and data memory where it ends hold mode. The rest is the
state after reset, the latches those of the image's options. -/
theorem State.resetFrom_eq (t : State) :
    t.resetFrom = { State.reset with
      phase := .asserted, typesSet := false, rom := t.rom, latch := resetLatches t.rom, pins := t.pins, env := t.env, draws := t.draws + 1,
      ram := t.resetFrom.ram, ramEpoch := t.resetFrom.ramEpoch } := rfl

/-- The reset sequence goes on in the phase and the output types alone, and ends with RES high only. -/
theorem State.continueReset_eq (t : State) (resLow : Bool) :
    t.continueReset resLow =
      { t with phase := (t.continueReset resLow).phase, typesSet := (t.continueReset resLow).typesSet } ∧
    (t.phase ≠ .out → (t.continueReset resLow).phase = .out → resLow = false ∧ (t.continueReset resLow).typesSet = true) := by
  obtain ⟨⟩ := resLow <;> unfold State.continueReset <;> cases h : t.phase <;> simp_all <;> rw [← h]

/-- Leaving hold mode by reset, every word of data memory reads as before (60_exceptions R345). -/
theorem State.readWord_resetFrom (t : State) (h : t.mode = .hold) (a : RamAddr) :
    t.resetFrom.readWord a = t.readWord a := by
  simp [State.resetFrom, State.readWord, h]

/-- Everything one step can do, with its guards. -/
theorem step_cases (s : State) :
    (resetTaken s.event s.boundary = true ∧
      ((s.phase = .asserted ∧ step s = .next s.boundary) ∨
       (s.phase ≠ .asserted ∧ step s = .next s.boundary.resetFrom))) ∨
    (resetTaken s.event s.boundary = false ∧
      ((s.phase ≠ .out ∧ step s = .next (s.boundary.continueReset s.event.res)) ∨
       (s.phase = .out ∧
        ((s.mode = .hold ∧ step s = .next s.boundary) ∨
         (s.mode ≠ .hold ∧ ∃ f, s.boundary.acceptable = some f ∧ step s = .next (s.boundary.enterInterrupt f)) ∨
         (s.mode = .halt ∧ s.boundary.acceptable = none ∧
            step s = .next (if s.event.p0Release then { s.boundary with mode := .run } else s.boundary)) ∨
         (s.mode = .run ∧ s.boundary.acceptable = none ∧ step s = s.boundary.runInstr))))) := by
  unfold step State.proceed
  rw [State.boundary_phase, State.boundary_mode]
  by_cases hr : resetTaken s.event s.boundary = true
  · rw [if_pos hr]
    exact .inl ⟨hr, by by_cases hp : s.phase = .asserted <;> simp [hp]⟩
  · rw [if_neg hr]
    refine .inr ⟨by simpa using hr, ?_⟩
    by_cases hp : s.phase = .out
    · rw [if_neg (by simpa using hp)]
      exact .inr ⟨hp, by cases s.mode <;> cases s.boundary.acceptable <;> simp⟩
    · rw [if_pos hp]
      exact .inl ⟨hp, rfl⟩

end Sys2Proof.Machine
end

