-- ==== Sys2Proof/Tests/Slice0.lean ====
section
/-!
SUPPORT. The model's own tests: the well-formedness smoke, the decoding of every constructor by a word written out from
30_encoding R103, the bytes no row has, single steps whose expected results are the vectors of spec/95_test_vectors.md,
and for each statement with hypotheses a named witness that meets them.
-/

namespace Sys2Proof.Tests

open Sys2Proof.Machine

/-! ### Well-formedness -/

theorem test_wf_refuses :
    Instr.wf (.lai 0) = false ∧ Instr.wf (.adi 6) = false ∧ Instr.wf (.adi 10) = false ∧
    Instr.wf (.eih 0) = false ∧ Instr.wf (.dih 0) = false := by
  decide

theorem test_wf_accepts :
    Instr.wf (.lai 1) = true ∧ Instr.wf (.adi 0) = true ∧ Instr.wf (.eih 15) = true ∧ Instr.wf (.dih 1) = true ∧
    Instr.wf (.eil 0) = true := by
  decide

/-! ### Decoding -/

/-- Whether a word of the opcode table decodes to an instruction. -/
def decodes (nbits w : Nat) (i : Instr) : Bool := decide (decodeTableWord nbits w = some i)

theorem test_decode_accumulator :
    (decodes 8 0b10000000 .cla && decodes 16 0b1100111100100110 .daa && decodes 16 0b1100111100101010 .das &&
    decodes 8 0b00011110 .clc && decodes 8 0b00011111 .stc && decodes 8 0b00011000 .cma &&
    decodes 8 0b00010100 .ia && decodes 8 0b00100100 .da && decodes 8 0b00010000 .rar && decodes 8 0b00000001 .ral &&
    decodes 8 0b01000101 .tae && decodes 8 0b01000110 .tea && decodes 8 0b01000100 .xae) = true := by
  decide

theorem test_decode_memory_manipulation :
    (decodes 8 0b00010010 .im && decodes 8 0b00100010 .dm && decodes 16 0b1100011110100011 (.imdr 0xA3) &&
    decodes 16 0b1100001110100011 (.dmdr 0xA3) && decodes 8 0b00001110 (.smb 2) &&
    decodes 8 0b00101110 (.rmb 2)) = true := by
  decide

theorem test_decode_arithmetic :
    (decodes 8 0b00000110 .ad && decodes 16 0b1100100110100011 (.addr 0xA3) && decodes 8 0b00000010 .adc &&
    decodes 16 0b1100111100100101 (.adi 5) && decodes 8 0b00010111 .subc && decodes 8 0b00000111 .anda &&
    decodes 8 0b00000101 .ora && decodes 8 0b00010101 .exl && decodes 8 0b00000011 .andm &&
    decodes 8 0b00000100 .orm && decodes 8 0b00010110 .cm && decodes 16 0b1100111110100101 (.ci 5) &&
    decodes 16 0b1100111110110101 (.cli 5) && decodes 16 0b1100111111010010 (.cmb 2)) = true := by
  decide

theorem test_decode_load_store :
    (decodes 8 0b01011100 .lae && decodes 8 0b10000101 (.lai 5) && decodes 16 0b1100000110100011 (.ladr 0xA3) &&
    decodes 8 0b01000111 .st && decodes 8 0b01011110 .sae && decodes 8 0b01001010 (.la .xy) &&
    decodes 8 0b01001001 (.laI .hl) && decodes 8 0b01011011 (.laD .xy) && decodes 8 0b01001100 (.xa .hl) &&
    decodes 8 0b01001111 (.xaI .xy) && decodes 8 0b01011101 (.xaD .hl) &&
    decodes 16 0b1100100010100011 (.xadr 0xA3) && decodes 16 0b1100011010100011 (.leai 0xA3) &&
    decodes 8 0b01011010 .rtbl && decodes 8 0b01011000 .rtblp) = true := by
  decide

theorem test_decode_data_pointer :
    (decodes 8 0b01100101 (.ldz 5) && decodes 16 0b1100111100000101 (.lhi 5) &&
    decodes 16 0b1100111100010101 (.lli 5) && decodes 16 0b1100001010100011 (.lhli 0xA3) &&
    decodes 16 0b1100000010100011 (.lxyi 0xA3) && decodes 8 0b00010001 .il && decodes 8 0b00100001 .dl &&
    decodes 8 0b00010011 .iy && decodes 8 0b00100011 .dy && decodes 16 0b1100111111110000 .tah &&
    decodes 16 0b1100111111100000 .tha && decodes 8 0b01000000 .xah && decodes 16 0b1100111111110001 .tal &&
    decodes 16 0b1100111111100001 .tla && decodes 8 0b01000001 .xal && decodes 16 0b1100111111110010 .tax &&
    decodes 16 0b1100111111100010 .txa && decodes 8 0b01000010 .xax && decodes 16 0b1100111111110011 .tay &&
    decodes 16 0b1100111111100011 .tya && decodes 8 0b01000011 .xay) = true := by
  decide

theorem test_decode_flag :
    (decodes 8 0b01111001 (.sfb 9) && decodes 8 0b00111001 (.rfb 9)) = true := by
  decide

theorem test_decode_jump :
    (decodes 16 0b1110101100111100 (.jmp 0xB3C) && decodes 8 0b00100111 .jpea &&
    decodes 16 0b0101011101010110 (.cal 0x756) && decodes 8 0b10101101 (.czp 13) && decodes 8 0b00011011 .bank &&
    decodes 16 0b1100111111111000 .pushHl && decodes 16 0b1100111111111010 .pushXy &&
    decodes 16 0b1100111111111100 .pushAe && decodes 16 0b1100111111101000 .popHl &&
    decodes 16 0b1100111111101010 .popXy && decodes 16 0b1100111111101100 .popAe && decodes 8 0b00011100 .rt &&
    decodes 8 0b00011101 .rti) = true := by
  decide

theorem test_decode_branch :
    (decodes 16 0b1101001011010110 (.ba 2 0xD6) && decodes 16 0b1001001011010110 (.bna 2 0xD6) &&
    decodes 16 0b1101011011010110 (.bm 2 0xD6) && decodes 16 0b1001011011010110 (.bnm 2 0xD6) &&
    decodes 16 0b1101101011010110 (.bp 2 0xD6) && decodes 16 0b1001101011010110 (.bnp 2 0xD6) &&
    decodes 16 0b1101110011010110 (.bc 0xD6) && decodes 16 0b1001110011010110 (.bnc 0xD6) &&
    decodes 16 0b1101110111010110 (.bz 0xD6) && decodes 16 0b1001110111010110 (.bnz 0xD6) &&
    decodes 16 0b1111100111010110 (.bf 9 0xD6) && decodes 16 0b1011100111010110 (.bnf 9 0xD6)) = true := by
  decide

theorem test_decode_io :
    (decodes 8 0b00100000 .ip0 && decodes 8 0b00100110 .ip && decodes 8 0b00011001 .ipm &&
    decodes 16 0b1100111101100101 (.ipdr 5) && decodes 16 0b1100111111010100 .ip45 && decodes 8 0b00100101 .op &&
    decodes 8 0b00011010 .opm && decodes 16 0b1100111101110101 (.opdr 5) && decodes 16 0b1100111111010101 .op45 &&
    decodes 8 0b00001010 (.spb 2) && decodes 8 0b00101010 (.rpb 2) && decodes 16 0b1100010110100011 (.andpdr 10 3) &&
    decodes 16 0b1100010010100011 (.orpdr 10 3)) = true := by
  decide

theorem test_decode_ctl :
    (decodes 8 0b11001010 .wttm0 && decodes 16 0b1100111111110100 .wttm1 && decodes 8 0b11001011 .rtim0 &&
    decodes 16 0b1100111111110101 .rtim1 && decodes 16 0b1100111111100110 .start0 &&
    decodes 16 0b1100111111100111 .start1 && decodes 16 0b1100111111110110 .stop0 &&
    decodes 16 0b1100111111110111 .stop1 && decodes 16 0b1100110101010000 .mset &&
    decodes 16 0b1100110110010000 .mreset && decodes 16 0b1100110101010101 (.eih 5) &&
    decodes 16 0b1100110101000101 (.eil 5) && decodes 16 0b1100110110010101 (.dih 5) &&
    decodes 16 0b1100110110000101 (.dil 5) && decodes 16 0b1100111111011010 .wtsp &&
    decodes 16 0b1100111111011011 .rsp && decodes 16 0b1100111111011110 .halt &&
    decodes 16 0b1100111111011111 .hold && decodes 16 0b1100111111101110 .starts &&
    decodes 16 0b1100111111101111 .wtsio && decodes 16 0b1100111111111111 .rsio && decodes 8 0b00000000 .nop &&
    decodes 16 0b1100111111000010 (.sb 2)) = true := by
  decide

theorem test_decode_second_names :
    (decodes 16 0b1100110101010011 (.eih 3) && decodes 16 0b1100110110010111 (.dih 7) &&
    decodes 8 0b01001000 (.la .hl) && decodes 8 0b01001101 (.xaI .hl) && decodes 8 0b01011011 (.laD .xy)) = true := by
  decide

theorem test_decode_rejects :
    decode [] = .error .noBytes ∧ decode [0xCC#8, 0] = .error (.unassignedFirst 0xCC) ∧
    decode [0x9E#8] = .error (.unassignedFirst 0x9E) ∧ decode [0xC6#8] = .error (.missingSecond 0xC6) ∧
    decode [0xCF#8, 0x30#8] = .error (.unassignedSecond 0xCF 0x30) ∧
    decode [0xCF#8, 0xFE#8] = .error (.unassignedSecond 0xCF 0xFE) ∧
    decode [0xCD#8, 0x00#8] = .error (.unassignedSecond 0xCD 0) :=
  ⟨rfl, rfl, rfl, rfl, rfl, rfl, rfl⟩

/-! ### Single steps: the vectors of spec/95_test_vectors.md -/

/-- An option area with these bytes at 3FF0H to 3FF4H and 3FF8H, the others 0. -/
def optionArea (o0 o1 o2 o3 o4 o8 : Byte) : Memory 8 :=
  [(0x3FF0, o0), (0x3FF1, o1), (0x3FF2, o2), (0x3FF3, o3), (0x3FF4, o4), (0x3FF5, 0), (0x3FF6, 0), (0x3FF7, 0),
    (0x3FF8, o8), (0x3FF9, 0), (0x3FFA, 0), (0x3FFB, 0), (0x3FFC, 0), (0x3FFD, 0), (0x3FFE, 0), (0x3FFF, 0)]

/-- Every port open-drain, no watchdog, no inverter circuit. -/
def plainOptions : Memory 8 := optionArea 0 0 0 0 0 0x7F

/-- The state the vectors start from: PC = 100H, every latch bit that has an output pin 1, no inverter circuit, and what
reset leaves. -/
def start : State :=
  { State.reset with
    pc := 0x100, rom := plainOptions
    latch := { p0 := 15, p1 := 15, p2 := 15, p3 := 7, p4 := 15, p5 := 15, p6 := 15, pc := 12 } }

/-- The instruction the bytes stand for, executed. -/
def run (bytes : List Byte) (s : State) : Result :=
  match decode bytes with
  | .ok (i, _) => exec i s
  | .error _ => .fault (.badPlacement s.pc)

/-- Whether the answer is a next state of which `f` is `v`. -/
def gives {α : Type} [DecidableEq α] (r : Result) (f : State → α) (v : α) : Bool :=
  match r with
  | .next t => decide (f t = v)
  | _ => false

/-- V40.1, V40.2, V40.4, V40.5, V40.8, V40.9, V40.11, V40.13, V40.16, V40.19. -/
theorem test_run_accumulator :
    (gives (run [0x80] { start with ac := 9, zf := false, lsk := false })
      (fun t => (t.pc, t.ac, t.zf, t.lsk)) (0x101, 0, true, true) &&
    gives (run [0x80] { start with ac := 9, zf := false, lsk := true })
      (fun t => (t.pc, t.ac, t.zf)) (0x101, 9, false) &&
    gives (run [0xCF, 0x26] { start with ac := 0xA, cf := false, zf := false })
      (fun t => (t.pc, t.ac, t.cf, t.zf)) (0x102, 0, false, true) &&
    gives (run [0xCF, 0x2A] { start with ac := 0xF, cf := false, zf := false })
      (fun t => (t.pc, t.ac, t.cf, t.zf)) (0x102, 9, false, false) &&
    gives (run [0x18] { start with ac := 0xF, cf := true, zf := false })
      (fun t => (t.pc, t.ac, t.cf, t.zf)) (0x101, 0, true, true) &&
    gives (run [0x14] { start with ac := 0xF, cf := false, zf := false })
      (fun t => (t.pc, t.ac, t.cf, t.zf)) (0x101, 0, true, true) &&
    gives (run [0x24] { start with ac := 0, cf := true, zf := true })
      (fun t => (t.pc, t.ac, t.cf, t.zf)) (0x101, 0xF, false, false) &&
    gives (run [0x10] { start with ac := 1, cf := false, zf := false })
      (fun t => (t.pc, t.ac, t.cf, t.zf)) (0x101, 0, true, false) &&
    gives (run [0x01] { start with ac := 5, cf := true, zf := true })
      (fun t => (t.pc, t.ac, t.cf, t.zf)) (0x101, 0xB, false, false) &&
    gives (run [0x44] { start with ac := 0, e := 0xC, zf := false })
      (fun t => (t.pc, t.ac, t.e, t.zf)) (0x101, 0xC, 0, false)) = true := by
  decide

/-- V41.2, V41.3, V41.5, V41.7. -/
theorem test_run_memory_manipulation :
    (gives (run [0x12]
        { start with dph := 2, dpl := 4, cf := true, zf := true, bnk := true, ram := [(0x24, 0xF), (0x124, 3)] })
      (fun t => (t.pc, t.cf, t.zf, t.bnk, t.readWord 0x124)) (0x101, false, false, false, 4) &&
    gives (run [0x22] { start with dph := 0, dpl := 0, cf := true, zf := false, ram := [(0, 0)] })
      (fun t => (t.pc, t.cf, t.zf, t.readWord 0)) (0x101, false, false, 0xF) &&
    gives (run [0xC3, 0x7F] { start with dph := 1, dpl := 2, cf := false, zf := true, ram := [(0x7F, 5)] })
      (fun t => (t.pc, t.cf, t.zf, t.readWord 0x7F)) (0x102, true, false, 4) &&
    gives (run [0x2D] { start with dph := 3, dpl := 0, zf := false, ram := [(0x30, 2)] })
      (fun t => (t.pc, t.zf, t.readWord 0x30)) (0x101, true, 0)) = true := by
  decide

/-- V42.1, V42.4, V42.5, V42.7, V42.8, V42.12, V42.13, V42.15, V42.18, V42.19, V42.22. -/
theorem test_run_arithmetic :
    (gives (run [0x06] { start with ac := 9, dph := 1, dpl := 0, cf := false, zf := false, ram := [(0x10, 7)] })
      (fun t => (t.pc, t.ac, t.cf, t.zf)) (0x101, 0, true, true) &&
    gives (run [0x02] { start with ac := 0xF, dph := 1, dpl := 0, cf := true, zf := false, ram := [(0x10, 0xF)] })
      (fun t => (t.pc, t.ac, t.cf, t.zf)) (0x101, 0xF, true, false) &&
    gives (run [0xCF, 0x2F] { start with ac := 1, cf := false, zf := false })
      (fun t => (t.pc, t.ac, t.cf, t.zf)) (0x102, 0, false, true) &&
    gives (run [0x17] { start with ac := 3, dph := 1, dpl := 0, cf := true, zf := false, ram := [(0x10, 9)] })
      (fun t => (t.pc, t.ac, t.cf, t.zf)) (0x101, 5, true, false) &&
    gives (run [0x17] { start with ac := 9, dph := 1, dpl := 0, cf := false, zf := false, ram := [(0x10, 3)] })
      (fun t => (t.pc, t.ac, t.cf, t.zf)) (0x101, 0xA, false, false) &&
    gives (run [0x15] { start with ac := 6, dph := 1, dpl := 0, cf := true, zf := false, ram := [(0x10, 6)] })
      (fun t => (t.pc, t.ac, t.cf, t.zf)) (0x101, 0, true, true) &&
    gives (run [0x03] { start with ac := 0xC, dph := 1, dpl := 0, zf := true, ram := [(0x10, 6)] })
      (fun t => (t.pc, t.ac, t.zf, t.readWord 0x10)) (0x101, 0xC, false, 4) &&
    gives (run [0x16] { start with ac := 3, dph := 1, dpl := 0, cf := true, zf := true, ram := [(0x10, 9)] })
      (fun t => (t.pc, t.ac, t.cf, t.zf)) (0x101, 3, false, false) &&
    gives (run [0x16] { start with ac := 0, dph := 1, dpl := 0, cf := false, zf := false, ram := [(0x10, 0)] })
      (fun t => (t.pc, t.ac, t.cf, t.zf)) (0x101, 0, true, true) &&
    gives (run [0xCF, 0xAA] { start with ac := 0xC, cf := false, zf := true })
      (fun t => (t.pc, t.ac, t.cf, t.zf)) (0x102, 0xC, true, false) &&
    gives (run [0xCF, 0xD2] { start with ac := 4, dph := 1, dpl := 0, zf := false, ram := [(0x10, 6)] })
      (fun t => (t.pc, t.ac, t.zf)) (0x102, 4, true)) = true := by
  decide

/-- V43.1, V43.5, V43.7, V43.13, V43.16, V43.19, V43.20, V43.21, V43.22, V43.23. -/
theorem test_run_load_store :
    (gives (run [0x5C] { start with ac := 0, e := 0, dph := 2, dpl := 6, zf := true, ram := [(0x26, 0xB), (0x27, 3)] })
      (fun t => (t.pc, t.ac, t.e, t.zf)) (0x101, 0xB, 3, true) &&
    gives (run [0x83] { start with ac := 5, zf := false, lsk := true })
      (fun t => (t.pc, t.ac, t.zf)) (0x101, 5, false) &&
    gives (run [0x47] { start with ac := 6, dph := 0, dpl := 1, bnk := true })
      (fun t => (t.pc, t.ac, t.bnk, t.readWord 0x101)) (0x101, 6, false, 6) &&
    gives (run [0x59] { start with ac := 0, dph := 1, dpl := 0, zf := true, ram := [(0x10, 4)] })
      (fun t => (t.pc, t.ac, t.dpl, t.zf)) (0x101, 4, 0xF, false) &&
    gives (run [0x4E] { start with ac := 3, dpx := 1, dpy := 1, ram := [(0x11, 0xC)] })
      (fun t => (t.pc, t.ac, t.readWord 0x11)) (0x101, 0xC, 3) &&
    gives (run [0x5D] { start with ac := 3, dph := 1, dpl := 1, zf := false, ram := [(0x11, 0xC)] })
      (fun t => (t.pc, t.ac, t.dpl, t.zf, t.readWord 0x11)) (0x101, 0xC, 0, true, 3) &&
    gives (run [0x5F] { start with ac := 3, dpx := 1, dpy := 0, zf := true, ram := [(0x10, 0xC)] })
      (fun t => (t.pc, t.ac, t.dpy, t.zf, t.readWord 0x10)) (0x101, 0xC, 0xF, false, 3) &&
    gives (run [0xC6, 0xA5] { start with ac := 0, e := 0, zf := true })
      (fun t => (t.pc, t.ac, t.e, t.zf)) (0x102, 5, 0xA, true) &&
    gives (run [0x5A] { start with pc := 0x2310, ac := 0xE, e := 0xF, rom := [(0x23FE, 0x9C)] })
      (fun t => (t.pc, t.ac, t.e)) (0x2311, 0xC, 9) &&
    gives (run [0x58] { start with pc := 0x40, ac := 0, e := 8, rom := [(0x80, 0x5A)] })
      (fun t => (t.pc, t.ac, t.e, t.latch.p4, t.latch.p5)) (0x41, 0, 8, 5, 0xA)) = true := by
  decide

/-- V44.1, V44.3, V44.6, V44.9, V44.19. -/
theorem test_run_data_pointer :
    (gives (run [0x69] { start with dph := 7, dpl := 2, zf := false })
      (fun t => (t.pc, t.dph, t.dpl, t.zf)) (0x101, 0, 9, false) &&
    gives (run [0x11] { start with dph := 2, dpl := 0xF, cf := false, zf := false })
      (fun t => (t.pc, t.dpl, t.cf, t.zf)) (0x101, 0, false, true) &&
    gives (run [0x13] { start with dpx := 2, dpy := 0xF, zf := false })
      (fun t => (t.pc, t.dpy, t.zf)) (0x101, 0, true) &&
    gives (run [0xCF, 0xE0] { start with ac := 5, dph := 0, zf := false })
      (fun t => (t.pc, t.ac, t.zf)) (0x102, 0, true) &&
    gives (run [0x43] { start with ac := 6, dpy := 9 })
      (fun t => (t.pc, t.ac, t.dpy)) (0x101, 9, 6)) = true := by
  decide

/-- V45.2, V45.4. -/
theorem test_run_flag :
    (gives (run [0x7F] { start with zf := false, f := 1 })
      (fun t => (t.pc, t.zf, t.f)) (0x101, false, 0x8001) &&
    gives (run [0x35] { start with zf := true, f := 0xA0 })
      (fun t => (t.pc, t.zf, t.f)) (0x101, false, 0x80)) = true := by
  decide

/-- V46.3, V46.5, V46.7, V46.9, V46.13, V46.16. -/
theorem test_run_jump :
    (gives (run [0xE1, 0x23] { start with pc := 0x40, bnk := true })
      (fun t => (t.pc, t.bnk)) (0x1123, false) &&
    gives (run [0x27] { start with pc := 0x1234, ac := 0xB, e := 0xA })
      (fun t => (t.pc, t.ac, t.e)) (0x12AB, 0xB, 0xA) &&
    gives (run [0x57, 0xFF] { start with sp := 2, cf := false, zf := true })
      (fun t => (t.pc, t.sp, t.cf, t.zf, [0, 1, 2, 0xFF].map t.readWord)) (0x7FF, 0xFE, false, true, [0, 1, 4, 2]) &&
    gives (run [0xAF] { start with pc := 0x3ABC, sp := 0x80, cf := true, zf := true })
      (fun t => (t.pc, t.sp, t.cf, t.zf, [0x7D, 0x7E, 0x7F, 0x80].map t.readWord))
        (0x3C, 0x7C, true, true, [0xD, 0xB, 0xA, 0xF]) &&
    gives (run [0xCF, 0xEA] { start with sp := 0xFE, dpx := 0, dpy := 0, ram := [(0, 2), (0xFF, 1)] })
      (fun t => (t.pc, t.sp, t.dpx, t.dpy)) (0x102, 0, 2, 1) &&
    gives (run [0x1D]
        { start with pc := 0x123, sp := 0xFB, zf := true, ram := [(0xFC, 2), (0xFD, 1), (0xFE, 0), (0xFF, 0xA)] })
      (fun t => (t.pc, t.sp, t.cf, t.zf)) (0x2012, 0xFF, true, false)) = true := by
  decide

/-- V47.1, V47.5, V47.7, V47.9, V47.12. -/
theorem test_run_branch :
    (gives (run [0xD2, 0x40] { start with pc := 0x110, ac := 4 })
      (fun t => (t.pc, t.ac)) (0x140, 4) &&
    gives (run [0x95, 0x30] { start with pc := 0x10, dph := 0, dpl := 5, ram := [(5, 2)] })
      (fun t => t.pc) 0x12 &&
    gives (run [0x98, 0x50] { start with dpl := 0xD, pins := { start.pins with pd := 0xE } })
      (fun t => t.pc) 0x150 &&
    gives (run [0x9C, 0x80] { start with pc := 0x1F00, cf := true })
      (fun t => (t.pc, t.cf)) (0x1F02, true) &&
    gives (run [0xF9, 0x22] { start with pc := 0x300, f := 0x200 })
      (fun t => t.pc) 0x322) = true := by
  decide

/-- V48.2, V48.3, V48.4, V48.7, V48.8, V48.10. -/
theorem test_run_io :
    (gives (run [0x26] { start with ac := 9, dpl := 0xD, zf := false, pins := { start.pins with pd := 0 } })
      (fun t => (t.pc, t.ac, t.zf)) (0x101, 0, true) &&
    gives (run [0x19] { start with ac := 4, dph := 2, dpl := 1, pins := { start.pins with p1 := 9 } })
      (fun t => (t.pc, t.ac, t.readWord 0x21)) (0x101, 4, 9) &&
    gives (run [0xCF, 0xD4]
        { start with ac := 0, e := 0, zf := false, pins := { start.pins with p4 := 0xA, p5 := 3 } })
      (fun t => (t.pc, t.ac, t.e, t.zf)) (0x102, 3, 0xA, false) &&
    gives (run [0xCF, 0xD5] { start with ac := 0, e := 0xF })
      (fun t => (t.pc, t.ac, t.e, t.latch.p4, t.latch.p5)) (0x102, 0, 0xF, 0xF, 0) &&
    gives (run [0x0A] { start with dpl := 2, zf := false, pins := { start.pins with p2 := 1 } })
      (fun t => (t.pc, t.zf, t.latch.p2)) (0x101, false, 5) &&
    gives (run [0xC5, 0xC2] { start with zf := true, pins := { start.pins with p2 := 7 } })
      (fun t => (t.pc, t.zf, t.latch.p2)) (0x102, false, 4)) = true := by
  decide

/-- V49.1, V49.3, V49.15, V49.16, V49.18, V49.20, V49.23, V49.25. -/
theorem test_run_control :
    (gives (run [0xCA] { start with dph := 4, dpl := 0, ac := 3, ram := [(0x40, 2), (0x41, 1)] })
      (fun t => (t.pc, t.t0Reload)) (0x101, 0x123) &&
    gives (run [0xCB] { start with dph := 1, dpl := 0, t0Run := false, t0Count := 0xABC, zf := false })
      (fun t => (t.pc, t.readWord 0x10, t.readWord 0x11, t.ac, t.zf)) (0x101, 0xB, 0xA, 0xC, false) &&
    gives (exec (.dih 4) { start with edih := 5, zf := true })
      (fun t => (t.edih, t.zf)) (1, false) &&
    gives (exec (.dil 3) { start with edil := 3, zf := false })
      (fun t => (t.edil, t.zf)) (0, true) &&
    gives (exec .rsp { start with sp := 0xF8, zf := false })
      (fun t => (t.e, t.ac, t.zf)) (0xF, 8, false) &&
    gives (exec .hold { start with pc := 0x200, pins := { start.pins with p3 := 7 } })
      (fun t => (t.pc, t.mode)) (0x202, Mode.hold) &&
    gives (exec .wtsio { start with sioRun := false, e := 0xA, ac := 5 })
      (fun t => t.sio) 0xA5 &&
    gives (run [0x00] { start with pc := 5, bnk := false, lsk := true })
      (fun t => (t.pc, t.lsk)) (6, false)) = true := by
  decide

/-- VM.1 to VM.4, VM.14, VM.19: forms that the vectors give by mnemonic only. -/
theorem test_run_by_mnemonic :
    (gives (exec (.imdr 0x40) { start with cf := false, ram := [(0x40, 0xF)] })
      (fun t => (t.readWord 0x40, t.cf, t.zf)) (0, true, true) &&
    gives (exec (.imdr 0x40) { start with bnk := true, cf := true, ram := [(0x40, 7), (0x140, 3)] })
      (fun t => (t.readWord 0x140, t.readWord 0x40, t.cf, t.bnk)) (4, 7, false, false) &&
    gives (exec (.addr 0x12) { start with ac := 1, ram := [(0x12, 0xF)] }) (fun t => (t.ac, t.cf, t.zf)) (0, true, true) &&
    gives (exec (.addr 0x12) { start with ac := 3, cf := true, ram := [(0x12, 2)] })
      (fun t => (t.ac, t.cf, t.zf)) (5, false, false) &&
    gives (exec .pushAe { start with sp := 1, e := 7, ac := 2, cf := true, zf := true })
      (fun t => (t.readWord 0, t.readWord 1, t.sp, t.cf, t.zf)) (2, 7, 0xFF, true, true) &&
    gives (exec (.opdr 6) { start with ac := 0xE }) (fun t => t.latch.p6) 0xE) = true := by
  decide

/-- V43.2, V49.2 and VM.20: the stops of 93 U4 and U13; and the fetch of an unassigned code (93 U1), and of the option
area: at 3FEFH an unassigned first byte of a one-byte code, and a prefix with an unassigned second byte. -/
theorem test_stops :
    exec .lae { start with dph := 2, dpl := 7 } = .fault (.oddM2 0x27) ∧
    exec .wttm0 { start with dph := 4, dpl := 1 } = .fault (.oddM2 0x41) ∧
    exec (.ipdr 8) start = .fault (.noPort 8) ∧
    State.fetch { start with rom := [(0x100, 0xCC), (0x101, 0)] } = .error (.unassignedOpcode 0x100 0xCC 0) ∧
    State.fetch { start with pc := 0x3FF0 } = .error (.badPlacement 0x3FF0) ∧
    State.fetch { start with pc := 0x3FEF, rom := [(0x3FEF, 0xE0)] } = .error (.badPlacement 0x3FEF) ∧
    State.fetch { start with pc := 0x3FEF, rom := [(0x3FEF, 0x9E), (0x3FF0, 0)] } = .error (.unassignedOpcode 0x3FEF 0x9E 0) ∧
    State.fetch { start with pc := 0x3FEF, rom := [(0x3FEF, 0xCF), (0x3FF0, 0x30)] } = .error (.badPlacement 0x3FEF) :=
  ⟨rfl, rfl, rfl, rfl, rfl, rfl, rfl, rfl⟩

/-- The first instruction after reset is the one that `withFetchWord` places; SUBC directly after BANK reads bank 1. -/
theorem test_step_from_reset :
    (gives (step (State.reset.withFetchWord 8 0b00010100)) (fun t => (t.pc, t.ac, t.zf, t.lsk)) (1, 1, false, false) &&
    gives (step (State.reset.withFetchWord 16 0b1100011010100101)) (fun t => (t.pc, t.e, t.ac)) (2, 0xA, 5) &&
    gives (step ({ start with bnk := true, ac := 2, ram := [(0x00, 3), (0x100, 9)] }.withFetchWord 8 0b00010111))
      (fun t => (t.ac, t.cf)) (7, true)) = true := by
  decide

/-- V60.1: the frame W = C234H below SP = F0H, what entry clears and where it goes. -/
theorem test_interrupt_entry :
    (gives
      (.next ({ start with
        pc := 0x234, sp := 0xF0, cf := true, zf := true, mse := true, lsk := true, irqPending := 9 }.enterInterrupt 3))
      (fun t => ([0xED, 0xEE, 0xEF, 0xF0].map t.readWord, t.sp, t.mse, t.lsk, t.irqPending))
      ([4, 3, 2, 0xC], 0xEC, false, false, 1) &&
    decide (({ start with mode := .halt }.enterInterrupt 3).mode = .run)) = true := by
  decide

/-- An image follows the option table or not (20_memory R77, 93 U16, U21): no inverter pair; a pair with a low level at
reset; the same pair with the high level; a reserved bit. -/
theorem test_options :
    optionsAccepted plainOptions = true ∧ optionsAccepted (optionArea 0x40 0 0 0 0 0x7E) = false ∧
    optionsAccepted (optionArea 0 0 0 0 0 0x7E) = true ∧ optionsAccepted (optionArea 0 0 0 0 0x10 0x7F) = false ∧
    (resetLatches (optionArea 0x86 0 0 0 0 0)).p0 = 15 ∧ (resetLatches (optionArea 0x86 0 0 0 0 0)).p5 = 0 ∧
    watchdogPresent (optionArea 1 0 0 0 0 0) = true := by
  decide

/-- 20_memory R71, 60_exceptions R343, R344, 70 R360, R362: what port outputs show. -/
theorem test_pin_drive :
    pinDrive start .p2 0 = some .released ∧ pinDrive { start with mode := .halt } .p2 0 = some .off ∧
    pinDrive { start with mode := .halt } .p0 0 = some .released ∧ pinDrive { start with mode := .hold } .p0 0 = some .off ∧
    pinDrive { start with rom := optionArea 0 1 0 0 0 0x7F } .p0 0 = some .pulledUp ∧ pinDrive start .p3 3 = none ∧
    pinDrive { start with rom := optionArea 0 0 1 0 0 0x7F } .p2 0 = some .high ∧
    pinDrive { start with rom := optionArea 0 0 1 0 0 0x7F, typesSet := false } .p2 0 = some .released ∧
    pinDrive { start with rom := optionArea 0 1 0 0 0 0x7F, typesSet := false } .p0 0 = some .released ∧
    pinDrive start .pd 0 = none := by
  decide

/-- 60_exceptions R341, R343, R344: the circuits on P40, P41 and on PD0, PD1, whose inputs are high and low. -/
theorem test_inverter_drive :
    let s := { start with
      rom := optionArea 0 0 0 0 0 0x76, pins := { start.pins with p4 := 15, pd := 2 }, inverters := ⟨⟨true, false⟩, ⟨false, false⟩, ⟨true, false⟩, ⟨false, false⟩⟩ }
    inverterDrive s .p40p41 = some .low ∧ inverterDrive s .pd0pd1 = some .high ∧
    inverterDrive { s with latch := { s.latch with p4 := 14 } } .p40p41 = some .high ∧
    inverterDrive { s with mode := .halt } .pd0pd1 = some .high ∧ inverterDrive { s with mode := .hold } .pd0pd1 = some .off ∧
    inverterDrive { s with inverters := State.reset.inverters } .p40p41 = some .off ∧ inverterDrive s .p42p43 = none := by
  decide

/-- 48_io R270, 20_memory R71: a pin whose latch is 0 reads 0, an inverter's pins and CMOS pins among them; an input reads
its level. -/
theorem test_pin_read :
    pinRead { start with latch := { start.latch with p4 := 5 }, rom := optionArea 0 0 0 0 0 0x7C } .p4 = 5 ∧
    pinRead { start with latch := { start.latch with p2 := 0 }, rom := optionArea 0 0 0x0F 0 0 0x7F } .p2 = 0 ∧
    pinRead { start with pins := { start.pins with pe := 9 } } .pe = 9 := by
  decide

/-- 60_exceptions R341: a disabled port circuit shows nothing, lets its pin float for the inverter and still reads 0 with
the latch at 0 (48_io R270); without the inverter option it is never disabled. -/
theorem test_disabled_port_circuit :
    let s := { start with
      rom := optionArea 0 0 0 0 0 0x7E, inverters := ⟨⟨true, true⟩, ⟨true, true⟩, ⟨true, true⟩, ⟨true, true⟩⟩,
      latch := { start.latch with p4 := 0 } }
    pinDrive s .p4 0 = some .off ∧ pinDrive s .p4 1 = some .off ∧ pinDrive s .p4 2 = some .low ∧
    inverterDrive s .p40p41 = some .low ∧ inverterDrive s .pd0pd1 = none ∧ pinRead s .p4 = 0 := by
  decide

/-- 20_memory R69, 60_exceptions R341, 70 R362: the shared pins and the 3-state outputs. -/
theorem test_shared_outputs :
    let s := { start with
      shared := { so0 := true, sck0 := false, p31 := .driven, p32 := .highImpedance, ml := false, dt := true } }
    pinDrive s .p2 1 = some .device ∧ pinDrive s .p2 2 = some .released ∧ pinDrive s .p3 1 = some .high ∧
    pinDrive { s with typesSet := false } .p3 1 = some .released ∧ pinDrive s .p3 2 = some .off ∧
    pinDrive s .p6 0 = some .released ∧ pinDrive s .p6 2 = some .device ∧
    pinDrive { s with shared := { s.shared with ml := true } } .p6 0 = some .released ∧
    pinDrive { s with shared := { s.shared with ml := true }, rom := optionArea 0 0 0 0 0 0xFF } .p6 0 = some .device ∧
    pinDrive { s with mode := .halt } .p2 1 = some .off ∧ pinDrive { s with mode := .hold } .p6 2 = some .off := by
  decide

/-- 70 R360, R362: RES low, held low, released, the options loaded, the program running. -/
theorem test_reset_sequence :
    let low : EnvEvent := { EnvEvent.quiet with pins := some State.reset.pins, res := true }
    ∃ t1 t2 t3 t4 t5, step { start with ac := 5, env := [low, low] } = .next t1 ∧ step t1 = .next t2 ∧ step t2 = .next t3 ∧
      step t3 = .next t4 ∧ step { t4 with rom := (0, 0) :: plainOptions } = .next t5 ∧
      [t1.phase, t2.phase, t3.phase, t4.phase] = [.asserted, .asserted, .loading, .out] ∧ t1.ac = 0 ∧
      [t1.typesSet, t2.typesSet, t3.typesSet, t4.typesSet] = [false, false, false, true] ∧
      [t1.pc, t4.pc, t5.pc] = [0, 0, 1] :=
  ⟨_, _, _, _, _, rfl, rfl, rfl, rfl, rfl, by decide⟩

/-- 70 R360, R362: RES low with P33/HOLD low. The program runs on with open-drain outputs; a reset sequence under way waits
for RES to go high. -/
theorem test_res_low_without_reset :
    let low : EnvEvent := { EnvEvent.quiet with pins := some { State.reset.pins with p3 := 7 }, res := true }
    let s : State := { start with rom := (0x100, 0x00) :: optionArea 0 1 0 0 0 0x7F, ac := 5, env := [low] }
    ∃ t u v, step s = .next t ∧ step { s with phase := .asserted } = .next u ∧ step { s with phase := .loading } = .next v ∧
      t.pc = 0x101 ∧ t.ac = 5 ∧ pinDrive t .p0 0 = some .released ∧ [u.phase, v.phase] = [.asserted, .asserted] :=
  ⟨_, _, _, rfl, rfl, rfl, rfl, rfl, by decide, by decide⟩

/-- 93 U5, U7, U11, U12: points the spec leaves open, and their harmless neighbours. -/
theorem test_open_points :
    openPoint (.lai 3) { start with lsk := true } = true ∧ openPoint (.lai 3) start = false ∧
    openPoint .nop { start with bnk := true } = true ∧ openPoint .im { start with bnk := true } = false ∧
    openPoint (.bz 0) { start with pc := 0x1FE } = true ∧ openPoint (.bz 0) { start with pc := 0x1FD } = false ∧
    openPoint (.sb 2) start = true ∧ openPoint (.sb 0) start = false ∧
    openPoint (.sb 0) { start with pc := 0xFFE } = true := by
  decide

/-! ### Witnesses: for each statement with hypotheses, a state and operands that meet them -/

theorem witness_DecodeOfEncode : (Instr.jmp 0xFFF).wf = true ∧ (Instr.lai 15).wf = true ∧ Instr.starts.wf = true := by
  decide

theorem witness_DecodedBytesAreEncoding : decode [0xCF#8, 0xEE#8, 0x55#8] = .ok (.starts, [0x55#8]) := rfl

theorem witness_UnassignedBytesFault :
    (let s : State := { start with pc := 0x3FEF, rom := [(0x3FEF, 0xCE), (0x3FF0, 0)] }
     inOptionArea s.pc = false ∧ s.fetch = .error (.unassignedOpcode 0x3FEF 0xCE 0)) ∧
    (let s : State := { start with pc := 0x3FEE, rom := [(0x3FEE, 0xCF), (0x3FEF, 0x30)] }
     inOptionArea s.pc = false ∧ s.fetch = .error (.unassignedOpcode 0x3FEE 0xCF 0x30)) :=
  ⟨⟨rfl, rfl⟩, rfl, rfl⟩

theorem witness_EffectiveAddresses : ({ start with dpl := 14 } : State).dpl.getLsbD 0 = false := by decide

theorem witness_PortNumbersAndPins :
    bitAt (cmosPins start.rom .p2) 0 = false ∧ bitAt (cmosPins (optionArea 0 0 1 0 0 0x7F) .p2) 0 = true ∧
    bitAt (cmosPins (optionArea 0 0 1 0 0 0x7F) .p2) 1 = false ∧ bitAt (cmosPins (optionArea 0 1 0 0 0 0x7F) .p0) 0 = false ∧
    bitAt (outputBits .pc) 2 = true ∧ bitAt (outputBits .p3) 2 = true ∧
    ¬((Port.p6 = .p2 ∨ Port.p6 = .p3) ∧ ((1#2) = 1 ∨ (1#2) = 2) ∨ Port.p6 = .p6 ∧ ((1#2) = 0 ∨ (1#2) = 2)) ∧ portOf 6 = some .p6 ∧ portOf 7 = none ∧
    portOf 0xB = none ∧ portOf 0xC = some .pc ∧ portOf 0xF = none := by
  decide

/-- Every pin high. -/
def highPins : Pins := State.reset.pins

/-- Every pin high but P33/HOLD. -/
def holdPins : Pins := { highPins with p3 := 7 }

/-- An event with these pins and RES low. -/
def resetLow (pins : Pins) : EnvEvent := { EnvEvent.quiet with pins := some pins, res := true }

/-- An event that is a watchdog expiry. -/
def watchdogExpiry : EnvEvent := { EnvEvent.quiet with watchdog := true }

theorem witness_ResetOfRunning :
    (∀ m ∈ [Mode.run, .halt, .hold],
      let s : State := { start with mode := m, env := [resetLow highPins] }
      (s.event.res = true ∧ s.sampledPins.p3.getLsbD 3 = true) ∧ s.phase ≠ .asserted) ∧
    (let s : State := { start with phase := .asserted, env := [resetLow highPins] }
     s.event.res = true ∧ s.sampledPins.p3.getLsbD 3 = true ∧ s.phase = .asserted) ∧
    ({ start with mode := .hold, env := [resetLow highPins] } : State).mode = .hold := by
  decide

theorem witness_ResetOfRunning_watchdog : ∀ m ∈ [Mode.run, .halt],
    let s : State := { start with mode := m, rom := optionArea 1 0 0 0 0 0x7F, env := [watchdogExpiry] }
    (s.event.watchdog = true ∧ (romByte s.rom 0x3FF0).getLsbD 0 = true ∧ s.mode ≠ .hold) ∧ s.phase ≠ .asserted := by
  decide

theorem witness_ResetOfRunning_release : ∀ p ∈ [ResetPhase.asserted, .loading],
    let s : State := { start with phase := p }
    resetTaken s.event s.boundary = false ∧ s.event.res = false ∧ s.phase = p := by
  decide

/-- RES low with P33/HOLD low: the sequence waits, and out of it the step is one with RES low. -/
theorem witness_ResetOfRunning_resLow :
    (let s : State := { start with phase := .loading, env := [resetLow holdPins] }
     resetTaken s.event s.boundary = false ∧ s.event.res = true ∧ s.phase ≠ .out) ∧
    (let s : State := { start with rom := (0x100, 0x00) :: plainOptions, env := [resetLow holdPins] }
     s.event.res = true ∧ ∃ t, step s = .next t) :=
  ⟨⟨by decide, by decide, by decide⟩, rfl, _, rfl⟩

theorem witness_ResetSourcesIgnored :
    (let s : State := { start with env := [resetLow holdPins] }
     s.env = resetLow holdPins :: [] ∧ s.sampledPins.p3.getLsbD 3 = false ∧ s.phase = .out ∧
       (resetLow holdPins).res = true) ∧
    (let s : State := { start with env := [watchdogExpiry] }
     s.env = watchdogExpiry :: [] ∧ (romByte s.rom 0x3FF0).getLsbD 0 = false) := by
  decide

/-- A running machine at the last place a two-byte instruction can stand. -/
def lastPlace : State := { start with pc := 0x3FEE, rom := [(0x3FEE, 0xE1), (0x3FEF, 0x23)] }

theorem witness_StepRunsDecoded :
    decode [romByte lastPlace.rom lastPlace.pc, romByte lastPlace.rom (lastPlace.pc + 1)] = .ok (.jmp 0x123, []) ∧
    inOptionArea lastPlace.pc = false ∧
    ((Instr.jmp 0x123).length = 2 → inOptionArea (lastPlace.pc + 1) = false) ∧
    lastPlace.mode = .run ∧ lastPlace.phase = .out ∧ resetTaken lastPlace.event lastPlace.boundary = false ∧
    lastPlace.boundary.acceptable = none :=
  ⟨rfl, rfl, fun _ => rfl, rfl, rfl, rfl, rfl⟩

/-- A running machine about to fetch these two bytes from the edge of the option area. -/
def atEdge (b1 b2 : Byte) : State := { start with pc := 0x3FEF, rom := [(0x3FEF, b1), (0x3FF0, b2)] }

theorem witness_StepRunsDecoded_error :
    (atEdge 0xDE 0).mode = .run ∧ (atEdge 0xDE 0).phase = .out ∧
    resetTaken (atEdge 0xDE 0).event (atEdge 0xDE 0).boundary = false ∧ (atEdge 0xDE 0).boundary.acceptable = none ∧
    (atEdge 0xDE 0).fetch = .error (.unassignedOpcode 0x3FEF 0xDE 0) :=
  ⟨rfl, rfl, rfl, rfl, rfl⟩

/-- The stop on an unassigned pair and on the first byte of the area, and no stop on a one-byte code at the edge. -/
theorem witness_OptionAreaFetchStops :
    (∀ s ∈ [atEdge 0xCF 0x30, { atEdge 0xE1 0x23 with pc := 0x3FF0 }, atEdge 0x14 0],
      s.mode = .run ∧ s.phase = .out ∧ resetTaken s.event s.boundary = false ∧ s.boundary.acceptable = none) ∧
    step (atEdge 0xCF 0x30) = .fault (.badPlacement 0x3FEF) ∧
    step { atEdge 0xE1 0x23 with pc := 0x3FF0 } = .fault (.badPlacement 0x3FF0) ∧
    (∃ t, step (atEdge 0x14 0) = .next t) := by
  refine ⟨fun s hs => ?_, rfl, rfl, _, rfl⟩
  simp only [List.mem_cons, List.not_mem_nil, or_false] at hs
  rcases hs with rfl | rfl | rfl <;> exact ⟨rfl, rfl, rfl, rfl⟩

theorem witness_DevicesAtBoundary :
    start.t0Run = false ∧ start.t1Run = false ∧ start.sioRun = false ∧ start.mode ≠ .hold ∧ start.phase = .out ∧
    ({ start with mode := .halt } : State).mode = .halt ∧ ({ start with mode := .hold } : State).mode = .hold ∧
    ({ start with phase := .loading } : State).phase ≠ .out ∧
    ({ start with env := [resetLow holdPins] } : State).event.res = true ∧ start.event.res = false ∧ start.typesSet = true ∧
    ({ start with env := [resetLow holdPins] } : State).event.pins = some holdPins := by
  decide

theorem witness_StepKeepsInv :
    let s : State := { start with lsk := true }.withFetchWord 8 0x14
    s.Inv ∧ ∃ t, step s = .next t :=
  ⟨⟨by decide, by decide, by decide, by decide, by decide, by decide⟩, _, rfl⟩

theorem witness_StepKeepsInv_standby :
    State.Inv { start with mode := .halt } ∧ ∃ t, step { start with mode := .halt } = .next t :=
  ⟨⟨by decide, by decide, by decide, by decide, by decide, by decide⟩, _, rfl⟩

theorem witness_StepKeepsInv_reset :
    State.Inv { start with pc := 0, phase := .loading, typesSet := false } ∧ ∃ t, step { start with pc := 0, phase := .loading, typesSet := false } = .next t :=
  ⟨⟨by decide, by decide, by decide, by decide, by decide, by decide⟩, _, rfl⟩

theorem witness_StepKeepsRom : ∃ t, step { start with env := [resetLow highPins] } = .next t := ⟨_, rfl⟩

theorem witness_ExecOutcomes :
    stopOf .lae { start with dpl := 14 } = none ∧ stopOf .lae { start with dpl := 15 } = some (.oddM2 0x0F) ∧
    stopOf (.ipdr 6) start = none ∧ stopOf (.ipdr 7) start = some (.noPort 7) ∧
    stopOf .op { start with bnk := true, dpl := 15 } = none := by
  decide

/-- BANK sets its latch, CLA the other one even where it is skipped, NOP lets BNK expire. -/
theorem witness_LatchesAfter :
    (∃ t, exec .bank start = .next t ∧ t.bnk = true) ∧ (∃ t, exec .cla { start with lsk := true } = .next t ∧ t.lsk = true) ∧
    (∃ t, exec .nop { start with bnk := true } = .next t ∧ t.bnk = false) :=
  ⟨⟨_, rfl, rfl⟩, ⟨_, rfl, rfl⟩, ⟨_, rfl, rfl⟩⟩

theorem witness_PcAdvance : (∃ t, exec (.leai 0x12) { start with pc := 0x3FFF } = .next t) ∧ writesPc (.leai 0x12) = false :=
  ⟨⟨_, rfl⟩, rfl⟩

theorem witness_WritersOfRegisters :
    (∃ t, exec .stc start = .next t) ∧ writesAc .stc = false ∧ writesE .stc = false ∧ writesDph .stc = false ∧
    writesDpl .stc = false ∧ writesDpx .stc = false ∧ writesDpy .stc = false :=
  ⟨⟨_, rfl⟩, rfl, rfl, rfl, rfl, rfl, rfl⟩

theorem witness_WritersOfFlags :
    ((∃ t, exec .rt start = .next t) ∧ writesCf .rt = false ∧ writesZf .rt = false) ∧
    ∃ t, exec (.sfb 15) start = .next t ∧ t.f ≠ start.f :=
  ⟨⟨⟨_, rfl⟩, rfl, rfl⟩, _, rfl, by decide⟩

theorem witness_WritersOfTheRest :
    ((∃ t, exec .ia start = .next t) ∧ writesSp .ia = false ∧ writesLatch .ia = false ∧ writesRam .ia = false) ∧
    (∃ t, exec .mset start = .next t ∧ t.mse ≠ start.mse) ∧ (∃ t, exec (.eih 8) start = .next t ∧ t.edih ≠ start.edih) ∧
    (∃ t, exec (.eil 1) start = .next t ∧ t.edil ≠ start.edil) ∧ (∃ t, exec .halt start = .next t ∧ t.mode ≠ start.mode) ∧
    (∃ t, exec .wttm1 { start with e := 1 } = .next t ∧ t.t1ReloadA ≠ 0) ∧
    (∃ t, exec .wttm0 { start with ac := 1, ram := [(0, 0), (1, 0)] } = .next t ∧ t.t0Reload ≠ 0) ∧
    (∃ t, exec .start0 start = .next t ∧ t.t0Run ≠ start.t0Run) ∧
    (∃ t, exec .start1 start = .next t ∧ t.t1Run ≠ start.t1Run) ∧
    (∃ t, exec .wtsio { start with e := 1 } = .next t ∧ t.sio ≠ 0) ∧
    (∃ t, exec .starts start = .next t ∧ t.sioRun ≠ start.sioRun) :=
  ⟨⟨⟨_, rfl⟩, rfl, rfl, rfl⟩, ⟨_, rfl, by decide⟩, ⟨_, rfl, by decide⟩, ⟨_, rfl, by decide⟩, ⟨_, rfl, by decide⟩,
    ⟨_, rfl, by decide⟩, ⟨_, rfl, by decide⟩, ⟨_, rfl, by decide⟩, ⟨_, rfl, by decide⟩, ⟨_, rfl, by decide⟩,
    ⟨_, rfl, by decide⟩⟩

/-- Five rotations in a row, from AC = 1, CF = 0. -/
theorem witness_RotateRight : ∃ t1 t2 t3 t4 t5,
    exec .rar { start with ac := 1 } = .next t1 ∧ exec .rar t1 = .next t2 ∧ exec .rar t2 = .next t3 ∧
    exec .rar t3 = .next t4 ∧ exec .rar t4 = .next t5 :=
  ⟨_, _, _, _, _, rfl, rfl, rfl, rfl, rfl⟩

theorem witness_LoadImmediateWithSkip : start.lsk = false ∧ ({ start with lsk := true } : State).lsk = true := by decide

theorem witness_TwoWordLoadStore :
    ({ start with dph := 15, dpl := 14 } : State).dpl.getLsbD 0 = false ∧ start.dpl.getLsbD 0 = false := by
  decide

theorem witness_Timers : ({ start with dpl := 14 } : State).dpl.getLsbD 0 = false := by decide

theorem witness_BranchesOnPort :
    (∀ n ∈ [(0#4, Port.p0), (6#4, .p6), (12#4, .pc), (14#4, .pe)],
      ({ start with dpl := n.1 } : State).bnk = false ∧ portOf ({ start with dpl := n.1 } : State).dpl = some n.2) ∧
    ({ start with bnk := true } : State).bnk = true := by
  decide

theorem witness_PortInputs :
    (∀ n ∈ [(0#4, Port.p0), (6#4, .p6), (12#4, .pc), (14#4, .pe)],
      ({ start with dpl := n.1 } : State).bnk = false ∧ portOf ({ start with dpl := n.1 } : State).dpl = some n.2 ∧
      portOf n.1 = some n.2) ∧
    ({ start with bnk := true, dpl := 15 } : State).bnk = true := by
  decide

theorem witness_PortOutputs :
    (start.bnk = false ∧ portOf start.dpl = some .p0 ∧ portOf 14 = some .pe ∧ portOf 3 = some .p3) ∧
    ({ start with bnk := true, dpl := 15 } : State).bnk = true := by
  decide

theorem witness_PortModifications :
    (start.bnk = false ∧ portOf start.dpl = some .p0 ∧ portOf 13 = some .pd ∧ portOf 12 = some .pc) ∧
    ({ start with bnk := true, dpl := 15 } : State).bnk = true := by
  decide

theorem witness_StackPointerAndSerial : start.sioRun = false ∧ ({ start with sioRun := true } : State).sioRun = true := by
  decide

theorem witness_StandbyEntry :
    ({ start with pins := holdPins } : State).pins.p3.getLsbD 3 = false ∧
    ({ start with pins := highPins } : State).pins.p3.getLsbD 3 = true := by
  decide

/-- A machine in halt mode; the event, if any, is the halt-control one. -/
def halted (release : Bool) : State :=
  { start with mode := .halt, env := [{ EnvEvent.quiet with pins := some highPins, p0Release := release }] }

theorem witness_StandbySteps :
    (∀ b, resetTaken (halted b).event (halted b).boundary = false ∧ (halted b).phase = .out ∧ (halted b).mode = .halt ∧
      (halted b).boundary.acceptable = none ∧ (halted b).event.p0Release = b) ∧
    (let s : State := { start with mode := .hold }
     resetTaken s.event s.boundary = false ∧ s.phase = .out ∧ s.mode = .hold) :=
  ⟨fun b => by cases b <;> exact ⟨rfl, rfl, rfl, rfl, rfl⟩, rfl, rfl, rfl⟩

/-- A machine with every interrupt enabled and factor 0 pending. -/
def interrupted (mode : Mode) : State :=
  { start with mode := mode, mse := true, edih := 15, edil := 15, irqPending := 1 }

/-- Factor 0 is accepted whatever the enable bit and the rank of each factor are. -/
theorem accepted_of_all_enabled (s : State) (hm : s.mse = true) (hb : s.bnk = false) (hh : s.edih = 15) (hl : s.edil = 15)
    (hp : s.irqPending = 1) : s.acceptable = some 0 := by
  have on : ∀ k : Fin 8, (pairOf 15 15).getLsbD k.val = true := by decide
  have fe : ∀ f, s.factorEnabled f = true := fun f => by simp only [State.factorEnabled, hh, hl]; exact on _
  have c : s.candidates = [0] := by
    simp only [State.candidates, fe, hp, Bool.and_true]; decide
  simp [State.acceptable, hm, hb, c, firstRanked]

theorem witness_InterruptAcceptance :
    (interrupted .run).acceptable = some 0 ∧ start.acceptable = none :=
  ⟨accepted_of_all_enabled _ rfl rfl rfl rfl rfl, rfl⟩

theorem witness_InterruptEntry : ∀ m ∈ [Mode.run, .halt],
    resetTaken (interrupted m).event (interrupted m).boundary = false ∧ (interrupted m).phase = .out ∧
    (interrupted m).mode ≠ .hold ∧ (interrupted m).boundary.acceptable = some 0 := by
  intro m hm
  simp only [List.mem_cons, List.not_mem_nil, or_false] at hm
  rcases hm with rfl | rfl
  · exact ⟨rfl, rfl, by decide, accepted_of_all_enabled _ rfl rfl rfl rfl rfl⟩
  · exact ⟨rfl, rfl, by decide, accepted_of_all_enabled _ rfl rfl rfl rfl rfl⟩

theorem witness_FramesReturn :
    (∃ t, exec (.cal 0x7FF) { start with sp := 2 } = .next t ∧ t.sp = 0xFE) ∧
    (∃ t, exec (.czp 15) { start with sp := 0 } = .next t ∧ t.sp = 0xFC) :=
  ⟨⟨_, rfl, rfl⟩, _, rfl, rfl⟩

theorem witness_PushThenPop :
    (∃ t, exec .pushHl { start with sp := 0 } = .next t) ∧ (∃ t, exec .pushXy { start with sp := 1 } = .next t) ∧
    (∃ t, exec .pushAe start = .next t) ∧ (∃ t, exec .sae { start with dpl := 14 } = .next t ∧ t.eaHl = 14) :=
  ⟨⟨_, rfl⟩, ⟨_, rfl⟩, ⟨_, rfl⟩, _, rfl, rfl⟩

end Sys2Proof.Tests
end

/-! ### Byte and cycle counts (30_encoding R101, R116) -/

namespace Sys2Proof

/-- The encoding has as many bytes as "Number of bytes" says. -/
theorem length_encode (i : Instr) : (encode i).length = i.length := by
  cases i <;> rfl

theorem Instr.length_eq_one_or_two (i : Instr) : i.length = 1 ∨ i.length = 2 := by
  cases i <;> simp [Instr.length]

/-- The exceptions that R116 lists: the one-byte instructions that take a second cycle. -/
def Instr.hasExtraCycle : Instr → Bool
  | .laI _ | .laD _ | .xaI _ | .xaD _ | .rtbl | .rtblp | .czp _ | .rt | .rti | .wttm0 | .rtim0 => true
  | _ => false

theorem Instr.hasExtraCycle_iff (i : Instr) :
    i.hasExtraCycle = true ↔ (∃ r, i = .laI r) ∨ (∃ r, i = .laD r) ∨ (∃ r, i = .xaI r) ∨ (∃ r, i = .xaD r) ∨
      i = .rtbl ∨ i = .rtblp ∨ (∃ p, i = .czp p) ∨ i = .rt ∨ i = .rti ∨ i = .wttm0 ∨ i = .rtim0 := by
  cases i <;> simp [Instr.hasExtraCycle]

/-- R116 in one equation: a cycle for each byte, and one more for the exceptions. -/
theorem Instr.cycles_eq (i : Instr) : i.cycles = if i.hasExtraCycle then i.length + 1 else i.length := by
  cases i <;> rfl

theorem Instr.length_of_hasExtraCycle {i : Instr} (h : i.hasExtraCycle = true) : i.length = 1 := by
  rcases i.hasExtraCycle_iff.mp h with ⟨r, rfl⟩ | ⟨r, rfl⟩ | ⟨r, rfl⟩ | ⟨r, rfl⟩ | rfl | rfl | ⟨p, rfl⟩ | rfl | rfl | rfl | rfl
    <;> rfl

theorem Instr.cycles_eq_two_iff (i : Instr) : i.cycles = 2 ↔ i.length = 2 ∨ i.hasExtraCycle = true := by
  rw [Instr.cycles_eq]
  split
  next h => simp [h, Instr.length_of_hasExtraCycle h]
  next h => simp [h]

theorem Instr.cycles_eq_one_or_two (i : Instr) : i.cycles = 1 ∨ i.cycles = 2 := by
  rw [Instr.cycles_eq]
  split
  next h => simp [Instr.length_of_hasExtraCycle h]
  next => exact i.length_eq_one_or_two

/-- Settles O5: the cycles are the bytes, plus one for the exceptions of R116. -/
theorem cycleCounts : Obligations.CycleCounts := by
  intro i
  refine ⟨length_encode i, i.length_eq_one_or_two, i.cycles_eq_one_or_two, ?_⟩
  rw [Instr.cycles_eq_two_iff, Instr.hasExtraCycle_iff]

end Sys2Proof

/-! ### Carry, rotation and the transfers that write no flag (40_accumulator R143, R144, R148, R150, R152;
44_data_pointer R219, R221, R222, R224, R225, R227, R228, R230) -/

namespace Sys2Proof.Machine

/-- An instruction that writes the registers of `t` and then goes on to the next one writes nothing else: the advance
touches PC and the latches alone. -/
theorem AnswersBut.of_advance {r : Result} {t : State} {len : RomAddr} (h : r = .next (t.advance len)) :
    AnswersBut r t :=
  ⟨t.advance len, h, rfl⟩

theorem exec_clc (s : State) : exec .clc s = .next (State.advance { s with cf := false } 1) := rfl

theorem exec_stc (s : State) : exec .stc s = .next (State.advance { s with cf := true } 1) := rfl

theorem exec_rar (s : State) :
    exec .rar s =
      .next (State.advance { s with ac := (rotRight s.ac s.cf).1, cf := (rotRight s.ac s.cf).2 } 1) := rfl

theorem exec_tae (s : State) : exec .tae s = .next (State.advance { s with e := s.ac } 1) := rfl

theorem exec_xae (s : State) : exec .xae s = .next (State.advance { s with ac := s.e, e := s.ac } 1) := rfl

theorem exec_tah (s : State) : exec .tah s = .next (State.advance { s with dph := s.ac } 2) := rfl

theorem exec_xah (s : State) : exec .xah s = .next (State.advance { s with ac := s.dph, dph := s.ac } 1) := rfl

theorem exec_tal (s : State) : exec .tal s = .next (State.advance { s with dpl := s.ac } 2) := rfl

theorem exec_xal (s : State) : exec .xal s = .next (State.advance { s with ac := s.dpl, dpl := s.ac } 1) := rfl

theorem exec_tax (s : State) : exec .tax s = .next (State.advance { s with dpx := s.ac } 2) := rfl

theorem exec_xax (s : State) : exec .xax s = .next (State.advance { s with ac := s.dpx, dpx := s.ac } 1) := rfl

theorem exec_tay (s : State) : exec .tay s = .next (State.advance { s with dpy := s.ac } 2) := rfl

theorem exec_xay (s : State) : exec .xay s = .next (State.advance { s with ac := s.dpy, dpy := s.ac } 1) := rfl

/-- CF enters at bit 3 and the other bits move down by one. -/
theorem rotRight_fst (a : Nibble) (cf : Bool) :
    (rotRight a cf).1 = BitVec.ofNat 4 (8 * cf.toNat + a.toNat / 2) := by
  revert a cf; decide

theorem rotRight_snd (a : Nibble) (cf : Bool) : (rotRight a cf).2 = a.getLsbD 0 := rfl

/-- AC and CF are a ring of five bits, which five rotations by one bring back to the start. -/
theorem rotRight_iterate_five (p : Nibble × Bool) : (Function.uncurry rotRight)^[5] p = p := by
  revert p; decide

/-- RAR acts on AC and CF as the rotation of the pair. -/
theorem ac_cf_of_exec_rar {s t : State} (h : exec .rar s = .next t) :
    (t.ac, t.cf) = Function.uncurry rotRight (s.ac, s.cf) := by
  rw [exec_rar] at h
  injection h with h
  subst h
  rfl

/-- Settles O23: each is a write of CF followed by the advance. -/
theorem carryClearAndSet : Obligations.CarryClearAndSet :=
  ⟨⟨rfl, rfl, rfl⟩, ⟨rfl, rfl, rfl⟩, fun s => ⟨.of_advance (exec_clc s), .of_advance (exec_stc s)⟩⟩

/-- Settles O24: the last clause is that the rotation has order five. -/
theorem rotateRight : Obligations.RotateRight := by
  refine ⟨⟨rfl, rfl, rfl⟩, fun s => ?_, fun s t1 t2 t3 t4 t5 h1 h2 h3 h4 h5 => ?_⟩
  · rw [← rotRight_fst, ← rotRight_snd s.ac s.cf]
    exact .of_advance (exec_rar s)
  · have restored : (t5.ac, t5.cf) = (s.ac, s.cf) := calc
      (t5.ac, t5.cf) = (Function.uncurry rotRight)^[5] (s.ac, s.cf) := by
        rw [ac_cf_of_exec_rar h5, ac_cf_of_exec_rar h4, ac_cf_of_exec_rar h3, ac_cf_of_exec_rar h2,
          ac_cf_of_exec_rar h1]
        rfl
      _ = (s.ac, s.cf) := rotRight_iterate_five _
    exact Prod.mk.inj restored

/-- Settles O25: each is a write of the registers named followed by the advance. -/
theorem transfersWithoutFlags : Obligations.TransfersWithoutFlags := by
  refine ⟨⟨rfl, rfl, rfl, rfl, rfl, rfl, rfl, rfl, rfl, rfl⟩, by decide, by decide, fun s => ?_⟩
  exact ⟨.of_advance (exec_tae s), .of_advance (exec_xae s), .of_advance (exec_tah s), .of_advance (exec_xah s),
    .of_advance (exec_tal s), .of_advance (exec_xal s), .of_advance (exec_tax s), .of_advance (exec_xax s),
    .of_advance (exec_tay s), .of_advance (exec_xay s)⟩

end Sys2Proof.Machine

/-! ### Comparison of AC with an immediate (42_arithmetic_logic_compare R181) -/

namespace Sys2Proof.Machine

/-- The difference of two words is zero exactly when they are equal. -/
theorem isZero_sub (a m : Nibble) : isZero (a - m) = decide (m = a) := by
  rw [Bool.eq_iff_iff, isZero_iff, decide_eq_true_iff, eq_comm (a := m)]
  exact sub_eq_zero

/-- A comparison writes nothing but the flags of AC - m: CF when AC is not below the operand, ZF when it is equal. -/
theorem compareAc_eq (s : State) (len : RomAddr) (m : Nibble) :
    compareAc s len m =
      State.advance { s with cf := decide (m.toNat ≤ s.ac.toNat), zf := decide (m = s.ac) } len := by
  rw [← isZero_sub, compareAc, sub4_eq]
  rfl

theorem exec_ci (s : State) (i4 : Nibble) :
    exec (.ci i4) s =
      .next (State.advance { s with cf := decide (i4.toNat ≤ s.ac.toNat), zf := decide (i4 = s.ac) } 2) :=
  congrArg _ (compareAc_eq s 2 i4)

/-- R103: the second byte of CI is the half 1010 followed by the operand. -/
theorem encode_ci (i4 : Nibble) : encode (.ci i4) = [0xCF#8, pairOf 0xA i4] := rfl

/-- Settles O36: the two flags of AC - i4 say how i4 compares with AC. -/
theorem compareImmediate : Obligations.CompareImmediate := by
  refine ⟨fun i4 => ⟨?_, rfl, rfl⟩, fun s i4 => .of_advance (exec_ci s i4)⟩
  rw [encode_ci, List.map_cons, List.map_singleton, pairOf_toNat]
  rfl

end Sys2Proof.Machine

/-! ### Immediate loads and the setting of a user flag (43_load_store R202, 44_data_pointer R210, R214, 45_flag R235) -/

namespace Sys2Proof.Machine

/-- R103: the one byte of LDZ is the half 0110 followed by the operand. -/
theorem encode_ldz (i4 : Nibble) : encode (.ldz i4) = [pairOf 0b0110 i4] := rfl

/-- R103: the one byte of SFB is the half 0111 followed by the number of the flag. -/
theorem encode_sfb (n4 : Nibble) : encode (.sfb n4) = [pairOf 0b0111 n4] := rfl

/-- A byte list of one pair, read as a number. -/
theorem map_toNat_pairOf (h l : Nibble) : [pairOf h l].map (·.toNat) = [16 * h.toNat + l.toNat] :=
  congrArg ([·]) (pairOf_toNat h l)

/-- To set a flag is to OR its bit in; `setFlagBit` clears bits only when its last argument is false. -/
theorem setFlagBit_true (v : BitVec 16) (n : Nibble) : setFlagBit v n true = v ||| (1#16 <<< n.toNat) := rfl

theorem exec_leai (s : State) (i8 : Byte) :
    exec (.leai i8) s = .next (State.advance { s with e := hiNib i8, ac := loNib i8 } 2) := rfl

theorem exec_ldz (s : State) (i4 : Nibble) :
    exec (.ldz i4) s = .next (State.advance { s with dph := 0, dpl := i4 } 1) := rfl

theorem exec_lxyi (s : State) (i8 : Byte) :
    exec (.lxyi i8) s = .next (State.advance { s with dpx := hiNib i8, dpy := loNib i8 } 2) := rfl

theorem exec_sfb (s : State) (n4 : Nibble) :
    exec (.sfb n4) s = .next (State.advance { s with f := s.f ||| (1#16 <<< n4.toNat) } 1) := by
  rw [← setFlagBit_true]
  rfl

/-- Settles O26: each is a write of the registers named followed by the advance, which asks nothing of LSK. -/
theorem immediateLoads : Obligations.ImmediateLoads := by
  refine ⟨fun i8 => ⟨rfl, rfl, rfl⟩, fun i4 => ⟨?ldzByte, rfl, rfl⟩, fun i8 => ⟨rfl, rfl, rfl⟩,
    fun n4 => ⟨?sfbByte, rfl, rfl⟩, fun i8 => rfl, fun i4 => rfl, fun s => ?effects⟩
  case ldzByte => exact (congrArg _ (encode_ldz i4)).trans (map_toNat_pairOf 0b0110 i4)
  case sfbByte => exact (congrArg _ (encode_sfb n4)).trans (map_toNat_pairOf 0b0111 n4)
  case effects =>
    exact ⟨fun i8 => .of_advance (exec_leai s i8), fun i4 => .of_advance (exec_ldz s i4),
      fun i8 => .of_advance (exec_lxyi s i8), fun n4 => .of_advance (exec_sfb s n4)⟩

end Sys2Proof.Machine

/-! ### Decoding and encoding (30_encoding R103 to R107, R109, R110) -/

namespace Sys2Proof

open Sys2Proof.Machine (hiNib loNib hiNib_pairOf loNib_pairOf pairOf_hiNib_loNib)

/-- All that the decoder accepts: a one-byte code of the maps, or a two-byte one. -/
theorem decode_eq_ok_iff (bytes : List Byte) (i : Instr) (rest : List Byte) :
    decode bytes = .ok (i, rest) ↔
      (∃ b1, bytes = b1 :: rest ∧ lengthOf b1 = some 1 ∧ decodeOne b1 = some i) ∨
      (∃ b1 b2, bytes = b1 :: b2 :: rest ∧ lengthOf b1 = some 2 ∧ decodeTwo b1 b2 = some i) := by
  unfold decode
  cases bytes with
  | nil => simp
  | cons b1 tail =>
    dsimp only
    split
    next hl => cases hd : decodeOne b1 <;> simp [hl, hd, and_comm]
    next n hn hl =>
      obtain rfl := lengthOf_two hl hn
      cases tail with
      | nil => simp [hl]
      | cons b2 tail => cases hd : decodeTwo b1 b2 <;> simp [hl, hd, and_comm]
    next hl => simp [hl]

/-- The decoder reads a code and nothing after it. -/
theorem decode_append {bytes : List Byte} {i : Instr} (rest : List Byte) (h : decode bytes = .ok (i, [])) :
    decode (bytes ++ rest) = .ok (i, rest) := by
  rw [decode_eq_ok_iff] at h ⊢
  rcases h with ⟨b1, rfl, hl, hd⟩ | ⟨b1, b2, rfl, hl, hd⟩
  · exact .inl ⟨b1, rfl, hl, hd⟩
  · exact .inr ⟨b1, b2, rfl, hl, hd⟩

/-! The fields of a code byte. -/

theorem bitVec_two_cases (t : BitVec 2) : t = 0 ∨ t = 1 ∨ t = 2 ∨ t = 3 := by
  revert t; decide

theorem hiNib_append (h l : Nibble) : hiNib (h ++ l) = h := hiNib_pairOf h l

theorem loNib_append (h l : Nibble) : loNib (h ++ l) = l := loNib_pairOf h l

theorem hiNib_append_loNib (b : Byte) : hiNib b ++ loNib b = b := pairOf_hiNib_loNib b

/-- The target of JMP is the four bits of its first byte and its second byte. -/
theorem append_fields_twelve (p : BitVec 12) : p.extractLsb' 8 4 ++ p.extractLsb' 0 8 = p :=
  (BitVec.extractLsb'_append_extractLsb'_eq_extractLsb' (by decide)).trans BitVec.extractLsb'_eq_self

/-- The target of CAL is the three bits of its first byte and its second byte. -/
theorem append_fields_eleven (p : BitVec 11) : p.extractLsb' 8 3 ++ p.extractLsb' 0 8 = p :=
  (BitVec.extractLsb'_append_extractLsb'_eq_extractLsb' (by decide)).trans BitVec.extractLsb'_eq_self

/-- The first byte of CAL, 50H to 57H: its row, its column and the bits of the target it holds. -/
theorem cal_byte_fields (q : BitVec 3) :
    hiNib (0b01010#5 ++ q) = 5 ∧ (loNib (0b01010#5 ++ q)).toNat < 8 ∧ (0b01010#5 ++ q).extractLsb' 0 3 = q := by
  revert q; decide

theorem decode_encode_jmp (p : BitVec 12) : decode (encode (.jmp p)) = .ok (.jmp p, []) := by
  refine (decode_eq_ok_iff _ _ _).2 (.inr ⟨_, _, rfl, ?_, ?_⟩)
  · simp [lengthOf, hiNib_append]
  · simp [decodeTwo, hiNib_append, loNib_append, append_fields_twelve]

theorem decode_encode_cal (p : BitVec 11) : decode (encode (.cal p)) = .ok (.cal p, []) := by
  obtain ⟨hhi, hlo, hq⟩ := cal_byte_fields (p.extractLsb' 8 3)
  refine (decode_eq_ok_iff _ _ _).2 (.inr ⟨_, _, rfl, ?_, ?_⟩)
  · simp [lengthOf, hhi, hlo]
  · simp [decodeTwo, hhi, hlo, hq, append_fields_eleven]

/-- The maps read the code of each instruction as that instruction, an operand field at a time. -/
theorem decode_encode (i : Instr) (h : i.wf = true) : decode (encode i) = .ok (i, []) := by
  cases i
  case smb t | rmb t | cmb t | spb t | rpb t | sb t =>
    rcases bitVec_two_cases t with rfl | rfl | rfl | rfl <;> rfl
  case ba t p | bna t p | bm t p | bnm t p | bp t p | bnp t p =>
    rcases bitVec_two_cases t with rfl | rfl | rfl | rfl <;> rfl
  case la r | laI r | laD r | xa r | xaI r | xaD r => cases r <;> rfl
  case adi n | lai n | eih n | dih n => revert n; decide
  case ci n | cli n | ldz n | lhi n | lli n | sfb n | rfb n | czp n | ipdr n | opdr n | eil n | dil n =>
    revert n; decide
  case bf n p | bnf n p => simp [decode, encode, lengthOf, decodeTwo, hiNib_append, loNib_append]
  case andpdr n m =>
    show Except.ok (Instr.andpdr (hiNib (n ++ m)) (loNib (n ++ m)), []) = _
    rw [hiNib_append, loNib_append]
  case orpdr n m =>
    show Except.ok (Instr.orpdr (hiNib (n ++ m)) (loNib (n ++ m)), []) = _
    rw [hiNib_append, loNib_append]
  case jmp p => exact decode_encode_jmp p
  case cal p => exact decode_encode_cal p
  all_goals rfl

/-- Settles O1: the maps read each code back, and nothing after it. -/
theorem decodeOfEncode : Obligations.DecodeOfEncode :=
  fun i rest h => decode_append rest (decode_encode i h)

/-! The converse, map by map. -/

/-- What a map answers for these bytes is well formed and has these bytes as its code. -/
def Spells (bytes : List Byte) (answer : Option Instr) : Prop :=
  ∀ i, answer = some i → i.wf = true ∧ bytes = encode i

theorem spells_none (bytes : List Byte) : Spells bytes none := fun _ h => nomatch h

theorem spells_some {bytes : List Byte} {i : Instr} (hw : i.wf = true) (hb : bytes = encode i) :
    Spells bytes (some i) := fun _ h => Option.some.inj h ▸ ⟨hw, hb⟩

theorem spells_iff (bytes : List Byte) (answer : Option Instr) :
    Spells bytes answer ↔ (answer.all fun i => i.wf && bytes == encode i) = true := by
  cases answer <;> simp [Spells]

theorem spells_decodeOne (b1 : Byte) : Spells [b1] (decodeOne b1) := by
  rw [spells_iff]; revert b1; decide

theorem spells_decodeIntr (b2 : Byte) : Spells [0xCD#8, b2] (decodeIntr b2) := by
  rw [spells_iff]; revert b2; decide

theorem spells_decodeExt (b2 : Byte) : Spells [0xCF#8, b2] (decodeExt b2) := by
  rw [spells_iff]; revert b2; decide

theorem byte_of_nibbles {b : Byte} {m n : Nat} (hh : (hiNib b).toNat = m) (hl : (loNib b).toNat = n) :
    b = BitVec.ofNat 8 (16 * m + n) := by
  subst hh hl
  revert b; decide

theorem spells_decodeRowC {b1 : Byte} (b2 : Byte) (hh : (hiNib b1).toNat = 12) :
    Spells [b1, b2] (decodeRowC b1 b2) := by
  unfold decodeRowC
  split
  case h_5 hl | h_6 hl =>
    obtain rfl := byte_of_nibbles hh hl
    exact spells_some rfl (by rw [encode, hiNib_append_loNib])
  case h_11 hl => exact byte_of_nibbles hh hl ▸ spells_decodeIntr b2
  case h_12 hl => exact byte_of_nibbles hh hl ▸ spells_decodeExt b2
  case h_13 => exact spells_none _
  all_goals
    next hl =>
    obtain rfl := byte_of_nibbles hh hl
    exact spells_some rfl rfl

theorem spells_decodeBranch (pos : Bool) {b1 : Byte} (b2 : Byte) (hh : (hiNib b1).toNat = if pos then 13 else 9) :
    Spells [b1, b2] (decodeBranch pos b1 b2) := by
  unfold decodeBranch
  dsimp only
  split
  case h_15 => exact spells_none _
  all_goals
    next hl =>
    obtain rfl := byte_of_nibbles hh hl
    cases pos <;> exact spells_some rfl rfl

/-- A byte is its upper half and its lower half, here with the upper half known. -/
theorem eq_append_loNib {b : Byte} (h : Nibble) (hh : (hiNib b).toNat = h.toNat) : b = h ++ loNib b := by
  rw [← BitVec.eq_of_toNat_eq hh, hiNib_append_loNib]

theorem eq_cal_byte {b : Byte} (hh : (hiNib b).toNat = 5) (hl : (loNib b).toNat < 8) :
    b = 0b01010#5 ++ b.extractLsb' 0 3 := by
  revert b; decide

theorem spells_decodeTwo (b1 b2 : Byte) : Spells [b1, b2] (decodeTwo b1 b2) := by
  unfold decodeTwo
  split
  next hh =>
    split
    next hl =>
      refine spells_some rfl ?_
      rw [encode, BitVec.extractLsb'_append_eq_left, BitVec.extractLsb'_append_eq_right, ← eq_cal_byte hh hl]
    next => exact spells_none _
  next hh => exact spells_decodeBranch false b2 hh
  next hh => exact spells_some rfl (by rw [encode, ← eq_append_loNib 0xB#4 hh])
  next hh => exact spells_decodeRowC b2 hh
  next hh => exact spells_decodeBranch true b2 hh
  next hh =>
    refine spells_some rfl ?_
    rw [encode, BitVec.extractLsb'_append_eq_left, BitVec.extractLsb'_append_eq_right, ← eq_append_loNib 0xE#4 hh]
  next hh => exact spells_some rfl (by rw [encode, ← eq_append_loNib 0xF#4 hh])
  next => exact spells_none _

/-- Settles O2: what either map answers spells the bytes it was given. -/
theorem decodedBytesAreEncoding : Obligations.DecodedBytesAreEncoding := by
  intro bytes i rest h
  rcases (decode_eq_ok_iff bytes i rest).1 h with ⟨b1, rfl, -, hd⟩ | ⟨b1, b2, rfl, -, hd⟩
  · obtain ⟨hw, hb⟩ := spells_decodeOne b1 i hd
    exact ⟨hw, by rw [← hb]; rfl⟩
  · obtain ⟨hw, hb⟩ := spells_decodeTwo b1 b2 i hd
    exact ⟨hw, by rw [← hb]; rfl⟩

/-- Settles O4: each word evaluates to its instruction. -/
theorem knownWords : Obligations.KnownWords :=
  ⟨rfl, rfl, rfl, rfl, rfl, rfl, rfl, rfl, rfl, rfl, rfl⟩

/-! Where the maps have no row. -/

theorem decodeBranch_eq_none_iff (pos : Bool) (b1 b2 : Byte) :
    decodeBranch pos b1 b2 = none ↔ 14 ≤ (loNib b1).toNat := by
  have column := (loNib b1).isLt
  unfold decodeBranch
  generalize (loNib b1).toNat = lo at column ⊢
  interval_cases lo <;> simp

theorem decodeRowC_eq_none_iff (b1 b2 : Byte) :
    decodeRowC b1 b2 = none ↔
      (loNib b1).toNat = 13 ∧ decodeIntr b2 = none ∨ (loNib b1).toNat = 15 ∧ decodeExt b2 = none ∨
        (loNib b1).toNat ∈ [10, 11, 12, 14] := by
  have column := (loNib b1).isLt
  unfold decodeRowC
  generalize (loNib b1).toNat = lo at column ⊢
  interval_cases lo <;> simp

/-- The first bytes of the two-byte codes, by row and column of the map (30_encoding R105). -/
theorem lengthOf_eq_two_iff (b1 : Byte) :
    lengthOf b1 = some 2 ↔
      (hiNib b1).toNat = 5 ∧ (loNib b1).toNat < 8 ∨ (hiNib b1).toNat = 9 ∧ (loNib b1).toNat < 14 ∨
      (hiNib b1).toNat = 11 ∨ (hiNib b1).toNat = 12 ∧ (loNib b1).toNat ∉ [10, 11, 12, 14] ∨
      (hiNib b1).toNat = 13 ∧ (loNib b1).toNat < 14 ∨ (hiNib b1).toNat = 14 ∨ (hiNib b1).toNat = 15 := by
  revert b1; decide

theorem eq_CF_iff (b1 : Byte) : b1 = 0xCF#8 ↔ (hiNib b1).toNat = 12 ∧ (loNib b1).toNat = 15 := by
  revert b1; decide

theorem eq_CD_iff (b1 : Byte) : b1 = 0xCD#8 ↔ (hiNib b1).toNat = 12 ∧ (loNib b1).toNat = 13 := by
  revert b1; decide

/-- Which pairs of a two-byte code the maps leave out: only after CFH and CDH are there any (30_encoding R105). -/
theorem decodeTwo_eq_none_iff {b1 : Byte} (b2 : Byte) (h : lengthOf b1 = some 2) :
    decodeTwo b1 b2 = none ↔ b1 = 0xCF#8 ∧ decodeExt b2 = none ∨ b1 = 0xCD#8 ∧ decodeIntr b2 = none := by
  rw [eq_CF_iff, eq_CD_iff]
  rcases (lengthOf_eq_two_iff b1).1 h with
    ⟨hh, hl⟩ | ⟨hh, hl⟩ | hh | ⟨hh, hl⟩ | ⟨hh, hl⟩ | hh | hh <;> simp only [decodeTwo, hh]
  case inr.inr.inr.inl => simp [decodeRowC_eq_none_iff, hl, or_comm]
  case inr.inl | inr.inr.inr.inr.inl => simp [decodeBranch_eq_none_iff, hl]
  all_goals simp [*]

theorem unassigned_pair_iff (b1 b2 : Byte) :
    lengthOf b1 = some 2 ∧ decodeTwo b1 b2 = none ↔
      b1 = 0xCF#8 ∧ decodeExt b2 = none ∨ b1 = 0xCD#8 ∧ decodeIntr b2 = none := by
  constructor
  · rintro ⟨hl, hd⟩
    exact (decodeTwo_eq_none_iff b2 hl).1 hd
  · intro h
    have hl : lengthOf b1 = some 2 := by rcases h with ⟨rfl, -⟩ | ⟨rfl, -⟩ <;> rfl
    exact ⟨hl, (decodeTwo_eq_none_iff b2 hl).2 h⟩

/-- The first bytes of no code (30_encoding R105). -/
theorem lengthOf_eq_none_iff (b1 : Byte) :
    lengthOf b1 = none ↔ b1 ∈ [0x9E#8, 0x9F#8, 0xCC#8, 0xCE#8, 0xDE#8, 0xDF#8] := by
  revert b1; decide

/-- The one-byte map has a row for each byte that is a code of its own. -/
theorem decodeOne_ne_none {b1 : Byte} (h : lengthOf b1 = some 1) : decodeOne b1 ≠ none := by
  revert b1; decide

/-- The holes of the second-byte map after CFH (30_encoding R106). -/
theorem decodeExt_eq_none_iff (b2 : Byte) :
    decodeExt b2 = none ↔
      (0x30 ≤ b2.toNat ∧ b2.toNat < 0x60 ∨ 0x80 ≤ b2.toNat ∧ b2.toNat < 0xA0 ∨ 0xC4 ≤ b2.toNat ∧ b2.toNat < 0xD0 ∨
        b2 ∈ [0xD6#8, 0xD7#8, 0xD8#8, 0xD9#8, 0xDC#8, 0xDD#8, 0xE4#8, 0xE5#8, 0xE9#8, 0xEB#8, 0xED#8, 0xF9#8, 0xFB#8,
          0xFD#8, 0xFE#8]) := by
  revert b2; decide

/-- The holes of the second-byte map after CDH (30_encoding R107). -/
theorem decodeIntr_eq_none_iff (b2 : Byte) :
    decodeIntr b2 = none ↔ b2.toNat < 0x40 ∨ 0x60 ≤ b2.toNat ∧ b2.toNat < 0x80 ∨ 0xA0 ≤ b2.toNat := by
  revert b2; decide

/-- When two bytes begin no code. -/
theorem decode_eq_error_iff (b1 b2 : Byte) :
    (∃ e, decode [b1, b2] = .error e) ↔ lengthOf b1 = none ∨ lengthOf b1 = some 2 ∧ decodeTwo b1 b2 = none := by
  unfold decode
  dsimp only
  split
  next hl =>
    obtain ⟨i, hd⟩ := Option.ne_none_iff_exists'.1 (decodeOne_ne_none hl)
    simp [hl, hd]
  next n hn hl =>
    obtain rfl := lengthOf_two hl hn
    cases hd : decodeTwo b1 b2 <;> simp [hl]
  next hl => simp [hl]

end Sys2Proof

namespace Sys2Proof.Machine

/-- Where a fetch stops for the placement of its bytes (20_memory R76; log 21). -/
theorem State.fetch_eq_badPlacement_iff (s : State) :
    s.fetch = .error (.badPlacement s.pc) ↔
      inOptionArea s.pc = true ∨ lengthOf (romByte s.rom s.pc) = some 2 ∧ inOptionArea (s.pc + 1) = true := by
  unfold State.fetch
  generalize s.pc + 1 = npc
  dsimp only
  split
  next hp => simp [hp]
  next hp =>
    split
    next h2 => simp [h2]
    next h2 => split <;> simp [hp, h2]

/-- Where a fetch stops for the bytes themselves (30_encoding R109, R110; log 22). -/
theorem State.fetch_eq_unassignedOpcode_iff (s : State) :
    s.fetch = .error (.unassignedOpcode s.pc (romByte s.rom s.pc) (romByte s.rom (s.pc + 1))) ↔
      inOptionArea s.pc = false ∧ ¬(lengthOf (romByte s.rom s.pc) = some 2 ∧ inOptionArea (s.pc + 1) = true) ∧
        ∃ e, decode [romByte s.rom s.pc, romByte s.rom (s.pc + 1)] = .error e := by
  unfold State.fetch
  generalize s.pc + 1 = npc
  dsimp only
  split
  next hp => simp [hp]
  next hp =>
    split
    next h2 => simp [h2]
    next h2 => split <;> simp_all

/-- Settles O3: the fetch stops for the bytes exactly in the holes of the maps. -/
theorem unassignedBytesFault : Obligations.UnassignedBytesFault := by
  intro s hp
  dsimp only
  rw [s.fetch_eq_unassignedOpcode_iff, decode_eq_error_iff, unassigned_pair_iff, ← lengthOf_eq_none_iff,
    ← decodeExt_eq_none_iff, ← decodeIntr_eq_none_iff]
  generalize romByte s.rom s.pc = b1
  generalize romByte s.rom (s.pc + 1) = b2
  have two : b1 = 0xCF#8 ∨ b1 = 0xCD#8 → lengthOf b1 = some 2 := by rintro (rfl | rfl) <;> rfl
  have one : lengthOf b1 = none → lengthOf b1 ≠ some 2 := by rintro h; rw [h]; nofun
  rw [← Bool.not_eq_true (inOptionArea (s.pc + 1))]
  tauto

end Sys2Proof.Machine

/-! ### What one instruction can do (00_scope R15, 10_state) -/

namespace Sys2Proof.Machine

/-! Who writes the fields that Safety.lean gives no list for: the latches, the user flags, the enables, MODE, the devices. -/

/-- BANK alone sets its latch (10_state R39). -/
def setsBank : Instr → Bool
  | .bank => true
  | _ => false

/-- The instructions that write a user flag (10_state R32). -/
def writesF : Instr → Bool
  | .sfb _ | .rfb _ => true
  | _ => false

/-- The instructions that write MSE (10_state R33; RTI_MSE, log 29). -/
def writesMse : Instr → Bool
  | .mset | .mreset => true
  | _ => false

/-- The instructions that write EDIH (10_state R34). -/
def writesEdih : Instr → Bool
  | .eih _ | .dih _ => true
  | _ => false

/-- The instructions that write EDIL (10_state R34). -/
def writesEdil : Instr → Bool
  | .eil _ | .dil _ => true
  | _ => false

/-- The instructions that write MODE (10_state R42). -/
def writesMode : Instr → Bool
  | .halt | .hold => true
  | _ => false

/-- The instructions that write the reload value of timer 0 (10_state R36). -/
def writesT0Reload : Instr → Bool
  | .wttm0 => true
  | _ => false

/-- The instructions that write the counter of timer 0 (10_state R36). -/
def writesT0Count : Instr → Bool
  | .start0 => true
  | _ => false

/-- The instructions that start or stop timer 0 (10_state R36). -/
def writesT0Run : Instr → Bool
  | .start0 | .stop0 => true
  | _ => false

/-- The instructions that write the reload value of timer 1 (10_state R37). -/
def writesT1ReloadA : Instr → Bool
  | .wttm1 => true
  | _ => false

/-- The instructions that write the counter of timer 1 (10_state R37). -/
def writesT1Count : Instr → Bool
  | .start1 => true
  | _ => false

/-- The instructions that start or stop timer 1 (10_state R37). -/
def writesT1Run : Instr → Bool
  | .start1 | .stop1 => true
  | _ => false

/-- The instructions that write SIO (10_state R38). -/
def writesSio : Instr → Bool
  | .wtsio => true
  | _ => false

/-- The instructions that start a transfer (10_state R38). -/
def writesSioRun : Instr → Bool
  | .starts => true
  | _ => false

/-- `s` after instruction `i` as far as the lists of writers fix it: a field that `i` writes is that of the answer `t`. -/
def State.framed (i : Instr) (s t : State) : State :=
  { s with
    ac := if writesAc i then t.ac else s.ac
    e := if writesE i then t.e else s.e
    dph := if writesDph i then t.dph else s.dph
    dpl := if writesDpl i then t.dpl else s.dpl
    dpx := if writesDpx i then t.dpx else s.dpx
    dpy := if writesDpy i then t.dpy else s.dpy
    pc := if writesPc i then t.pc else s.pc + BitVec.ofNat 14 i.length
    sp := if writesSp i then t.sp else s.sp
    cf := if writesCf i then t.cf else s.cf
    zf := if writesZf i then t.zf else s.zf
    f := if writesF i then t.f else s.f
    mse := if writesMse i then t.mse else s.mse
    edih := if writesEdih i then t.edih else s.edih
    edil := if writesEdil i then t.edil else s.edil
    bnk := setsBank i
    lsk := inLaiGroup i
    mode := if writesMode i then t.mode else s.mode
    ram := if writesRam i then t.ram else s.ram
    latch := if writesLatch i then t.latch else s.latch
    ctl := if writesLatch i then t.ctl else s.ctl
    t0Reload := if writesT0Reload i then t.t0Reload else s.t0Reload
    t0Count := if writesT0Count i then t.t0Count else s.t0Count
    t0Run := if writesT0Run i then t.t0Run else s.t0Run
    t1ReloadA := if writesT1ReloadA i then t.t1ReloadA else s.t1ReloadA
    t1Count := if writesT1Count i then t.t1Count else s.t1Count
    t1Run := if writesT1Run i then t.t1Run else s.t1Run
    sio := if writesSio i then t.sio else s.sio
    sioRun := if writesSioRun i then t.sioRun else s.sioRun
    draws := t.draws }

/-! The shared operations as one update each. -/

/-- The output latches after a write of port number `n` (20_memory R70, R71). -/
def latchAfterWrite (l : Latches) (b : Bool) (n v : Nibble) : Latches :=
  if b then l else (portOf n).elim l (latchWrite l · v)

/-- The recorded control registers after a write of port number `n` (20_memory R70). -/
def ctlAfterWrite (c : Vector Nibble 16) (b : Bool) (n v : Nibble) : Vector Nibble 16 :=
  if b then c.set n.toNat v n.isLt else c

theorem State.portWrite_update (t : State) (b : Bool) (n v : Nibble) :
    t.portWrite b n v =
      { t with latch := latchAfterWrite t.latch b n v, ctl := ctlAfterWrite t.ctl b n v } := by
  cases b
  · unfold State.portWrite latchAfterWrite
    cases portOf n <;> rfl
  · rfl

/-- An instruction writes what the lists of writers say and nothing else (10_state R20 to R43). -/
theorem exec_framed (i : Instr) (s t : State) (h : exec i s = .next t) : t = s.framed i t := by
  cases i
  case lae | sae | wttm0 | rtim0 => obtain ⟨-, rfl⟩ := (evenThen_next _ _ _).1 h; rfl
  case ip0 | ip | ipdr | ipm => obtain ⟨v, -, rfl⟩ := (inputThen_next _ _ _ _).1 h; rfl
  case ip45 => obtain ⟨v4, v5, -, -, rfl⟩ := (execIp45_next _ _).1 h; rfl
  case bp | bnp =>
    obtain ⟨v, -, rfl⟩ := (inputThen_next _ _ _ _).1 h
    rw [State.branch_eq]; rfl
  case op | opm | opdr =>
    obtain ⟨-, rfl⟩ := (outputTo_next _ _ _ _ _).1 h
    rw [State.portWrite_update]; rfl
  case spb t2 =>
    obtain ⟨old, -, rfl⟩ := (modifyPort_next s _ _ (setBit · t2 true) (fun _ t => t) _).1 h
    rw [State.portWrite_update]; rfl
  case rpb | andpdr | orpdr =>
    obtain ⟨old, -, rfl⟩ := (modifyPort_next s _ _ _ (fun r t => { t with zf := isZero r }) _).1 h
    simp only [State.portWrite_update]; rfl
  all_goals obtain rfl := (Host.Outcome.next.inj h).symm
  case cla | lai => rw [loadSkipping_eq]; rfl
  case op45 | rtblp => simp only [State.portWrite_update]; rfl
  case cal | czp => rw [State.call_eq]; rfl
  case laI r | laD r | xaI r | xaD r => cases r <;> rfl
  case ba | bna | bm | bnm | bc | bnc | bz | bnz | bf | bnf => rw [State.branch_eq]; rfl
  all_goals rfl
end Sys2Proof.Machine

/-! ### Who writes what (10_state R20 to R43, 20_memory R75) -/

namespace Sys2Proof.Machine

/-! The lists of writers as the statements spell them. -/

theorem setsBank_iff (i : Instr) : setsBank i = true ↔ i = .bank := by cases i <;> simp [setsBank]

theorem inLaiGroup_iff (i : Instr) : inLaiGroup i = true ↔ i = .cla ∨ ∃ n, i = .lai n := by
  cases i <;> simp [inLaiGroup]

theorem writesF_iff (i : Instr) : writesF i = true ↔ (∃ n, i = .sfb n) ∨ ∃ n, i = .rfb n := by
  cases i <;> simp [writesF]

theorem writesMse_iff (i : Instr) : writesMse i = true ↔ i = .mset ∨ i = .mreset := by
  cases i <;> simp [writesMse]

theorem writesEdih_iff (i : Instr) : writesEdih i = true ↔ (∃ n, i = .eih n) ∨ ∃ n, i = .dih n := by
  cases i <;> simp [writesEdih]

theorem writesEdil_iff (i : Instr) : writesEdil i = true ↔ (∃ n, i = .eil n) ∨ ∃ n, i = .dil n := by
  cases i <;> simp [writesEdil]

theorem writesMode_iff (i : Instr) : writesMode i = true ↔ i = .halt ∨ i = .hold := by
  cases i <;> simp [writesMode]

theorem writesT0Reload_iff (i : Instr) : writesT0Reload i = true ↔ i = .wttm0 := by
  cases i <;> simp [writesT0Reload]

theorem writesT0Count_iff (i : Instr) : writesT0Count i = true ↔ i = .start0 := by
  cases i <;> simp [writesT0Count]

theorem writesT0Run_iff (i : Instr) : writesT0Run i = true ↔ i = .start0 ∨ i = .stop0 := by
  cases i <;> simp [writesT0Run]

theorem writesT1ReloadA_iff (i : Instr) : writesT1ReloadA i = true ↔ i = .wttm1 := by
  cases i <;> simp [writesT1ReloadA]

theorem writesT1Count_iff (i : Instr) : writesT1Count i = true ↔ i = .start1 := by
  cases i <;> simp [writesT1Count]

theorem writesT1Run_iff (i : Instr) : writesT1Run i = true ↔ i = .start1 ∨ i = .stop1 := by
  cases i <;> simp [writesT1Run]

theorem writesSio_iff (i : Instr) : writesSio i = true ↔ i = .wtsio := by cases i <;> simp [writesSio]

theorem writesSioRun_iff (i : Instr) : writesSioRun i = true ↔ i = .starts := by cases i <;> simp [writesSioRun]

/-! How one field of `framed` is read: not written it is the old one, changed it was written. -/

section
variable {α : Type} {w : Bool} {new old : α}

theorem eq_of_not_written (h : new = if w then new else old) (hw : w = false) : new = old := by
  rwa [hw] at h

theorem written_of_ne (h : new = if w then new else old) (hne : new ≠ old) : w = true := by
  cases w
  · exact absurd h hne
  · rfl

end

/-! The memories and latches that an instruction leaves. -/

/-- Data memory after stores, the first of the list first. -/
def storeAll (ram : Memory 4) (ws : List (RamAddr × Nibble)) : Memory 4 := ws.foldl (fun m w => storeRam m w.1 w.2) ram

theorem ramWf_storeAll (ram : Memory 4) (ws : List (RamAddr × Nibble)) (h : ramWf ram = true) :
    ramWf (storeAll ram ws) = true := by
  induction ws generalizing ram with
  | nil => exact h
  | cons w rest ih => exact ih _ (ramWf_storeRam _ _ _ h)

/-- An instruction changes data memory by stores alone (20_memory R75). -/
theorem exec_ram_eq_storeAll {i : Instr} {s t : State} (h : exec i s = .next t) : ∃ ws, t.ram = storeAll s.ram ws := by
  cases hw : writesRam i
  case false => exact ⟨[], eq_of_not_written (congrArg State.ram (exec_framed i s t h)) hw⟩
  case true =>
    cases i
    case sae | rtim0 =>
      obtain ⟨-, rfl⟩ := (evenThen_next _ _ _).1 h
      exact ⟨[(_, _), (_, _)], rfl⟩
    case ipm =>
      obtain ⟨v, -, rfl⟩ := (inputThen_next _ _ _ _).1 h
      exact ⟨[(_, _)], rfl⟩
    case cal | czp =>
      obtain rfl := (Host.Outcome.next.inj h).symm
      rw [State.call_ram, State.pushFrame_ram_eq]
      exact ⟨[(_, _), (_, _), (_, _), (_, _)], rfl⟩
    case pushHl | pushXy | pushAe =>
      obtain rfl := (Host.Outcome.next.inj h).symm
      exact ⟨[(_, _), (_, _)], State.pushPair_ram _ _⟩
    case xaI r | xaD r =>
      obtain rfl := (Host.Outcome.next.inj h).symm
      exact ⟨[(s.eaReg r, s.ac)], by cases r <;> rfl⟩
    case im | dm | imdr | dmdr | smb | rmb | andm | orm | st | xa | xadr =>
      obtain rfl := (Host.Outcome.next.inj h).symm
      exact ⟨[(_, _)], rfl⟩
    all_goals exact nomatch hw

/-- The latches and the control registers after port writes, the first of the list first. -/
def writePorts (b : Bool) (ws : List (Nibble × Nibble)) (lc : Latches × Vector Nibble 16) : Latches × Vector Nibble 16 :=
  ws.foldl (fun lc w => (latchAfterWrite lc.1 b w.1 w.2, ctlAfterWrite lc.2 b w.1 w.2)) lc

/-- An instruction changes the latches and the control registers by port writes alone, in port bank 1 only directly after
BANK (20_memory R70, R71). -/
theorem exec_ports_eq_writePorts {i : Instr} {s t : State} (h : exec i s = .next t) :
    ∃ b ws, (s.bnk = false → b = false) ∧ (t.latch, t.ctl) = writePorts b ws (s.latch, s.ctl) := by
  cases hw : writesLatch i
  case false =>
    have e := exec_framed i s t h
    exact ⟨false, [], fun _ => rfl,
      Prod.ext (eq_of_not_written (congrArg State.latch e) hw) (eq_of_not_written (congrArg State.ctl e) hw)⟩
  case true =>
    cases i
    case op | opm | opdr =>
      obtain ⟨-, rfl⟩ := (outputTo_next _ _ _ _ _).1 h
      rw [State.portWrite_update]
      exact ⟨s.bnk, [(_, _)], id, rfl⟩
    case spb t2 =>
      obtain ⟨old, -, rfl⟩ := (modifyPort_next s _ _ (setBit · t2 true) (fun _ t => t) _).1 h
      rw [State.portWrite_update]
      exact ⟨s.bnk, [(_, _)], id, rfl⟩
    case rpb | andpdr | orpdr =>
      obtain ⟨old, -, rfl⟩ := (modifyPort_next s _ _ _ (fun r t => { t with zf := isZero r }) _).1 h
      simp only [State.portWrite_update]
      exact ⟨s.bnk, [(_, _)], id, rfl⟩
    case op45 =>
      obtain rfl := (Host.Outcome.next.inj h).symm
      simp only [State.portWrite_update]
      exact ⟨s.bnk, [(_, _), (_, _)], id, rfl⟩
    case rtblp =>
      obtain rfl := (Host.Outcome.next.inj h).symm
      simp only [State.portWrite_update]
      exact ⟨false, [(4, hiNib (romByte s.rom s.tableAddr)), (5, loNib (romByte s.rom s.tableAddr))], fun _ => rfl, rfl⟩
    all_goals exact nomatch hw

theorem latchesWf_latchAfterWrite (l : Latches) (b : Bool) (n v : Nibble) (h : latchesWf l = true) :
    latchesWf (latchAfterWrite l b n v) = true := by
  unfold latchAfterWrite
  cases b
  · cases portOf n
    · exact h
    · exact latchesWf_latchWrite l _ v h
  · exact h

theorem latchesWf_writePorts (b : Bool) (ws : List (Nibble × Nibble)) (lc : Latches × Vector Nibble 16)
    (h : latchesWf lc.1 = true) : latchesWf (writePorts b ws lc).1 = true := by
  induction ws generalizing lc with
  | nil => exact h
  | cons w rest ih => exact ih _ (latchesWf_latchAfterWrite _ _ _ _ h)

theorem writePorts_io_ctl (ws : List (Nibble × Nibble)) (lc : Latches × Vector Nibble 16) :
    (writePorts false ws lc).2 = lc.2 := by
  induction ws generalizing lc with
  | nil => rfl
  | cons w rest ih => exact ih _

theorem exec_keeps_ramWf {i : Instr} {s t : State} (h : exec i s = .next t) (hw : ramWf s.ram = true) :
    ramWf t.ram = true := by
  obtain ⟨ws, e⟩ := exec_ram_eq_storeAll h
  exact e ▸ ramWf_storeAll _ ws hw

theorem exec_keeps_latchesWf {i : Instr} {s t : State} (h : exec i s = .next t) (hw : latchesWf s.latch = true) :
    latchesWf t.latch = true := by
  obtain ⟨b, ws, -, e⟩ := exec_ports_eq_writePorts h
  rw [show t.latch = _ from congrArg Prod.fst e]
  exact latchesWf_writePorts b ws _ hw

theorem exec_keeps_ctl {i : Instr} {s t : State} (h : exec i s = .next t) (hb : s.bnk = false) : t.ctl = s.ctl := by
  obtain ⟨b, ws, hf, e⟩ := exec_ports_eq_writePorts h
  obtain rfl := hf hb
  exact (congrArg Prod.snd e).trans (writePorts_io_ctl ws _)

/-! The statements about who writes what, field by field of `framed`. -/

/-- Settles O18: the two latches are what `framed` makes them. -/
theorem latchesAfter : Obligations.LatchesAfter := by
  intro i s t h
  rw [exec_framed i s t h, ← setsBank_iff, ← inLaiGroup_iff]
  exact ⟨Iff.rfl, Iff.rfl⟩

/-- Settles O19: PC where the instruction is no writer of it. -/
theorem pcAdvance : Obligations.PcAdvance :=
  fun i s t h => eq_of_not_written (congrArg State.pc (exec_framed i s t h))

/-- Settles O20: the six halves of the register pairs. -/
theorem writersOfRegisters : Obligations.WritersOfRegisters := by
  intro i s t h
  have e := exec_framed i s t h
  exact ⟨eq_of_not_written (congrArg State.ac e), eq_of_not_written (congrArg State.e e),
    eq_of_not_written (congrArg State.dph e), eq_of_not_written (congrArg State.dpl e),
    eq_of_not_written (congrArg State.dpx e), eq_of_not_written (congrArg State.dpy e)⟩

/-- Settles O21: CF, ZF and the user flags. -/
theorem writersOfFlags : Obligations.WritersOfFlags := by
  intro i s t h
  have e := exec_framed i s t h
  exact ⟨eq_of_not_written (congrArg State.cf e), eq_of_not_written (congrArg State.zf e),
    fun hne => (writesF_iff i).1 (written_of_ne (congrArg State.f e) hne)⟩

/-- Settles O22: the fields left; a control register changes by a port write in port bank 1 alone. -/
theorem writersOfTheRest : Obligations.WritersOfTheRest := by
  intro i s t h
  have e := exec_framed i s t h
  refine ⟨eq_of_not_written (congrArg State.sp e),
    fun hne => (writesMse_iff i).1 (written_of_ne (congrArg State.mse e) hne),
    fun hne => (writesEdih_iff i).1 (written_of_ne (congrArg State.edih e) hne),
    fun hne => (writesEdil_iff i).1 (written_of_ne (congrArg State.edil e) hne),
    fun hne => (writesMode_iff i).1 (written_of_ne (congrArg State.mode e) hne),
    fun hne => (writesT0Reload_iff i).1 (written_of_ne (congrArg State.t0Reload e) hne),
    fun hne => (writesT1ReloadA_iff i).1 (written_of_ne (congrArg State.t1ReloadA e) hne),
    fun hne => (writesT0Count_iff i).1 (written_of_ne (congrArg State.t0Count e) hne),
    fun hne => (writesT1Count_iff i).1 (written_of_ne (congrArg State.t1Count e) hne),
    fun hne => (writesT0Run_iff i).1 (written_of_ne (congrArg State.t0Run e) hne),
    fun hne => (writesT1Run_iff i).1 (written_of_ne (congrArg State.t1Run e) hne),
    fun hne => (writesSio_iff i).1 (written_of_ne (congrArg State.sio e) hne),
    fun hne => (writesSioRun_iff i).1 (written_of_ne (congrArg State.sioRun e) hne),
    eq_of_not_written (congrArg State.latch e), ?ctl, eq_of_not_written (congrArg State.ram e),
    (congrArg State.rom e :), (congrArg State.irqPending e :), (congrArg State.pins e :), (congrArg State.env e :),
    (congrArg State.ramEpoch e :), (congrArg State.phase e :), (congrArg State.typesSet e :), (congrArg State.inverters e :),
    (congrArg State.shared e :)⟩
  rintro (hw | hb)
  · exact eq_of_not_written (congrArg State.ctl e) hw
  · exact exec_keeps_ctl h hb

end Sys2Proof.Machine

/-! ### Where an instruction stops (20_memory R67, R69; 93 U4, U13) -/

namespace Sys2Proof.Machine

/-- The answer is the stop, where there is one, and a next state else. -/
def StopsAt (stop : Option Fault) (r : Result) : Prop :=
  (stop = none → ∃ t, r = .next t) ∧ ∀ f, stop = some f → r = .fault f

theorem stopsAt_next (t : State) : StopsAt none (.next t) := ⟨fun _ => ⟨t, rfl⟩, nofun⟩

theorem stopsAt_evenThen (s t : State) : StopsAt (oddStop s) (evenThen s t) := by
  unfold StopsAt oddStop evenThen
  cases s.dpl.getLsbD 0 <;> simp

/-- A read answers a value exactly where there is no stop. -/
theorem portRead_of_noPortStop (s : State) (n : Nibble) :
    (noPortStop s n = none ∧ ∃ v, portRead s n = some v) ∨
      (noPortStop s n = some (.noPort n) ∧ portRead s n = none) := by
  unfold noPortStop portRead
  cases s.bnk <;> cases portOf n <;> simp

theorem stopsAt_inputThen (s : State) (n : Nibble) (k : Nibble → State) :
    StopsAt (noPortStop s n) (inputThen s n k) := by
  unfold inputThen
  rcases portRead_of_noPortStop s n with ⟨hs, v, hv⟩ | ⟨hs, hv⟩ <;> simp [StopsAt, hs, hv]

theorem stopsAt_modifyPort (s : State) (len : RomAddr) (n : Nibble) (g : Nibble → Nibble) (k : Nibble → State → State) :
    StopsAt (noPortStop s n) (modifyPort s len n g k) := by
  unfold modifyPort
  rw [rmwRead_eq]
  rcases portRead_of_noPortStop s n with ⟨hs, v, hv⟩ | ⟨hs, hv⟩ <;> simp [StopsAt, hs, hv]

theorem stopsAt_outputTo (s : State) (len : RomAddr) (n v : Nibble) :
    StopsAt (noPortStop s n) (outputTo s len n v) := by
  unfold StopsAt noPortStop outputTo
  cases s.bnk <;> cases portOf n <;> simp

/-- Ports 0, 4 and 5 exist, so IP0 and IP45 have no stop (20_memory R69). -/
theorem noPortStop_of_port (s : State) {n : Nibble} {p : Port} (h : portOf n = some p) : noPortStop s n = none := by
  simp [noPortStop, h]

theorem portRead_of_port (s : State) {n : Nibble} {p : Port} (h : portOf n = some p) : ∃ v, portRead s n = some v := by
  rcases portRead_of_noPortStop s n with ⟨-, hv⟩ | ⟨hs, -⟩
  · exact hv
  · exact absurd hs (by rw [noPortStop_of_port s h]; nofun)

theorem exec_ip45_next (s : State) : ∃ t, exec .ip45 s = .next t := by
  obtain ⟨v4, h4⟩ := portRead_of_port s (n := 4) rfl
  obtain ⟨v5, h5⟩ := portRead_of_port s (n := 5) rfl
  exact ⟨_, (execIp45_next s _).2 ⟨v4, v5, h4, h5, rfl⟩⟩

/-- Settles O17: the stop of an instruction is that of the one shared operation it calls. -/
theorem execOutcomes : Obligations.ExecOutcomes := by
  intro i s
  show StopsAt (stopOf i s) (exec i s)
  cases i
  case lae | sae | wttm0 | rtim0 => exact stopsAt_evenThen _ _
  case ip | ipm | ipdr | bp | bnp => exact stopsAt_inputThen _ _ _
  case op | opm | opdr => exact stopsAt_outputTo _ _ _ _
  case spb t2 => exact stopsAt_modifyPort s 1 s.dpl (setBit · t2 true) fun _ t => t
  case rpb t2 => exact stopsAt_modifyPort s 1 s.dpl (setBit · t2 false) fun r t => { t with zf := isZero r }
  case andpdr i4 p4 => exact stopsAt_modifyPort s 2 p4 (· &&& i4) fun r t => { t with zf := isZero r }
  case orpdr i4 p4 => exact stopsAt_modifyPort s 2 p4 (· ||| i4) fun r t => { t with zf := isZero r }
  case ip0 =>
    have h := stopsAt_inputThen s 0 fun v => { s.advanceIo 1 with ac := v, zf := isZero v }
    rwa [noPortStop_of_port s (n := 0) rfl] at h
  case ip45 => exact ⟨fun _ => exec_ip45_next s, nofun⟩
  all_goals exact stopsAt_next _

end Sys2Proof.Machine

/-! ### What one step can do, and what every step keeps (00_scope R15, 20_memory R61, 60_exceptions, 70 R360) -/

namespace Sys2Proof.Machine

theorem State.runInstr_next {t u : State} (h : t.runInstr = .next u) : ∃ i, t.fetch = .ok i ∧ exec i t = .next u := by
  unfold State.runInstr at h
  split at h
  next i hf => exact ⟨i, hf, h⟩
  next => exact nomatch h

/-- Where a step of `s` that answers a next state can lead: from the boundary in one of six ways. -/
inductive State.StepsTo (s : State) : State → Prop
  /-- Nothing follows the boundary: reset held, or a standby mode that nothing ends. -/
  | rest : s.StepsTo s.boundary
  | reset : s.StepsTo s.boundary.resetFrom
  | sequence : s.StepsTo (s.boundary.continueReset s.event.res)
  | interrupt (f : Fin 10) (hp : s.phase = .out) (ha : s.boundary.acceptable = some f) :
      s.StepsTo (s.boundary.enterInterrupt f)
  | release (hp : s.phase = .out) : s.StepsTo { s.boundary with mode := .run }
  | instruction (i : Instr) (t : State) (hp : s.phase = .out) (hm : s.mode = .run) (he : exec i s.boundary = .next t) :
      s.StepsTo t

theorem State.stepsTo_of_step {s t : State} (h : step s = .next t) : s.StepsTo t := by
  rcases step_cases s with ⟨-, ⟨-, e⟩ | ⟨-, e⟩⟩ |
    ⟨-, ⟨-, e⟩ | ⟨hp, ⟨-, e⟩ | ⟨-, f, ha, e⟩ | ⟨-, -, e⟩ | ⟨hm, -, e⟩⟩⟩ <;> rw [e] at h
  case inr.inr.inr.inr.inr =>
    obtain ⟨i, -, he⟩ := State.runInstr_next h
    exact .instruction i t hp hm he
  all_goals obtain rfl := (Host.Outcome.next.inj h).symm
  · exact .rest
  · exact .reset
  · exact .sequence
  · exact .rest
  · exact .interrupt f hp ha
  · split
    · exact .release hp
    · exact .rest

theorem State.rom_of_stepsTo {s t : State} (h : s.StepsTo t) : t.rom = s.rom := by
  cases h with
  | rest => exact s.boundary_rom
  | reset => exact s.boundary_rom
  | sequence => rw [(s.boundary.continueReset_eq s.event.res).1]; exact s.boundary_rom
  | interrupt f => rw [State.enterInterrupt_rom, State.boundary_rom]
  | release => exact s.boundary_rom
  | instruction i t hp hm he =>
    rw [exec_framed i _ t he]; exact s.boundary_rom

/-- Settles O16: none of the six ways a step can go on writes program memory. -/
theorem stepKeepsRom : Obligations.StepKeepsRom := fun _ _ h => State.rom_of_stepsTo (State.stepsTo_of_step h)

/-! The invariant, way by way. -/

theorem boundary_typesSet_of_sequence {s : State} (hp : s.phase ≠ .out) (h : s.typesSet = false) :
    s.boundary.typesSet = false := by
  simp [State.boundary, hp, h]

theorem State.Inv.boundary {s : State} (h : s.Inv) : s.boundary.Inv where
  ram := s.boundary_ram ▸ h.ram
  rom := s.boundary_rom ▸ h.rom
  latch := s.boundary_latch ▸ h.latch
  exclusive := by rw [s.boundary_bnk, s.boundary_lsk]; exact h.exclusive
  standby := by rw [s.boundary_mode, s.boundary_bnk, s.boundary_lsk]; exact h.standby
  starting := by
    rw [s.boundary_phase, s.boundary_mode, s.boundary_pc, s.boundary_bnk, s.boundary_lsk]
    intro hp
    obtain ⟨hm, hpc, hb, hl, ht⟩ := h.starting hp
    exact ⟨hm, hpc, hb, hl, boundary_typesSet_of_sequence hp ht⟩

/-- The options give no latch bit without a pin. -/
theorem latchesWf_resetLatches (rom : Memory 8) : latchesWf (resetLatches rom) = true := by
  simp [latchesWf, resetLatches]

theorem State.Inv.resetFrom {t : State} (h : t.Inv) : t.resetFrom.Inv where
  ram := by
    show ramWf (if t.mode = .hold then t.ram else []) = true
    split
    · exact h.ram
    · rfl
  rom := h.rom
  latch := latchesWf_resetLatches t.rom
  exclusive := rfl
  standby _ := ⟨rfl, rfl⟩
  starting _ := ⟨rfl, rfl, rfl, rfl, rfl⟩

/-- The reset sequence moves to another phase, and on its end sets the output types up. -/
theorem State.continueReset_cases (t : State) (resLow : Bool) :
    t.phase = .out ∧ t.continueReset resLow = t ∨
      t.phase ≠ .out ∧ ((∃ p, t.continueReset resLow = { t with phase := p }) ∨
        t.continueReset resLow = { t with phase := .out, typesSet := true }) := by
  unfold State.continueReset
  split
  next hp => exact .inl ⟨hp, rfl⟩
  next hp => exact .inr ⟨hp, .inl ⟨_, rfl⟩⟩
  next hp => exact .inr ⟨by simp [hp], .inl ⟨_, rfl⟩⟩
  next hp => exact .inr ⟨by simp [hp], .inr rfl⟩

theorem State.Inv.continueReset {t : State} (h : t.Inv) (resLow : Bool) : (t.continueReset resLow).Inv := by
  rcases t.continueReset_cases resLow with ⟨-, e⟩ | ⟨hp, ⟨p, e⟩ | e⟩ <;> rw [e]
  · exact h
  · exact ⟨h.ram, h.rom, h.latch, h.exclusive, h.standby, fun _ => h.starting hp⟩
  · exact ⟨h.ram, h.rom, h.latch, h.exclusive, h.standby, fun hne => absurd rfl hne⟩

theorem State.ram_enterInterrupt (s : State) (f : Fin 10) : ∃ ws, (s.enterInterrupt f).ram = storeAll s.ram ws := by
  rw [State.enterInterrupt_ram, State.pushFrame_ram_eq]
  exact ⟨[(_, _), (_, _), (_, _), (_, _)], rfl⟩

theorem State.Inv.enterInterrupt {t : State} (h : t.Inv) (f : Fin 10) (hp : t.phase = .out) :
    (t.enterInterrupt f).Inv where
  ram := by
    obtain ⟨ws, e⟩ := t.ram_enterInterrupt f
    rw [e]
    exact ramWf_storeAll _ ws h.ram
  rom := by rw [State.enterInterrupt_rom]; exact h.rom
  latch := by rw [State.enterInterrupt_latch]; exact h.latch
  exclusive := by rw [State.enterInterrupt_lsk, Bool.and_false]
  standby hm := absurd (t.enterInterrupt_mode f) hm
  starting hph := absurd ((t.enterInterrupt_phase f).trans hp) hph

theorem State.Inv.release {t : State} (h : t.Inv) (hp : t.phase = .out) : State.Inv { t with mode := .run } where
  ram := h.ram
  rom := h.rom
  latch := h.latch
  exclusive := h.exclusive
  standby hm := absurd rfl hm
  starting hph := absurd hp hph

theorem not_setsBank_and_inLaiGroup (i : Instr) : (setsBank i && inLaiGroup i) = false := by cases i <;> rfl

theorem State.Inv.exec {s t : State} {i : Instr} (h : s.Inv) (hp : s.phase = .out) (hm : s.mode = .run)
    (he : Machine.exec i s = .next t) : t.Inv := by
  have e := exec_framed i s t he
  have hbnk : t.bnk = setsBank i := congrArg State.bnk e
  have hlsk : t.lsk = inLaiGroup i := congrArg State.lsk e
  refine ⟨exec_keeps_ramWf he h.ram, ?rom, exec_keeps_latchesWf he h.latch, ?exclusive, ?standby, ?starting⟩
  case rom => rw [e]; exact h.rom
  case exclusive => rw [hbnk, hlsk]; exact not_setsBank_and_inLaiGroup i
  case standby =>
    intro hrun
    have hw : writesMode i = true := written_of_ne (congrArg State.mode e) (hm ▸ hrun)
    rw [hbnk, hlsk]
    rcases (writesMode_iff i).1 hw with rfl | rfl <;> exact ⟨rfl, rfl⟩
  case starting =>
    have hpt : t.phase = s.phase := (congrArg State.phase e :)
    exact fun hph => absurd (hpt.trans hp) hph

theorem State.Inv.stepsTo {s t : State} (h : s.Inv) (hs : s.StepsTo t) : t.Inv := by
  have hb := h.boundary
  have out (hp : s.phase = .out) : s.boundary.phase = .out := s.boundary_phase.trans hp
  cases hs with
  | rest => exact hb
  | reset => exact hb.resetFrom
  | sequence => exact hb.continueReset _
  | interrupt f hp => exact hb.enterInterrupt f (out hp)
  | release hp => exact hb.release (out hp)
  | instruction i t hp hm he => exact hb.exec (out hp) (s.boundary_mode.trans hm) he

/-- Settles O15: each of the six ways a step can go on keeps the invariant. -/
theorem stepKeepsInv : Obligations.StepKeepsInv := fun _ _ h hs => h.stepsTo (State.stepsTo_of_step hs)

/-- Settles O14: the reset state's memories are empty and its latches clear. -/
theorem resetInv : Obligations.ResetInv where
  ram := ramWf_reset
  rom := romWf_reset
  latch := latchesWf_resetLatches []
  exclusive := rfl
  standby _ := ⟨rfl, rfl⟩
  starting h := absurd rfl h

end Sys2Proof.Machine

/-! ### Reset, the boundary, and what a step does by mode (70 R360 to R364, 60_exceptions R326 to R347) -/

namespace Sys2Proof.Machine

/-! What pins show while no device uses them and the output types are gone. -/

theorem level_not (b : Bool) : level (!b) = if b then 0 else 15 := by
  cases b <;> rfl

theorem sharedUse_of_shared_reset {s : State} (h : s.shared = State.reset.shared) (p : Port) (t : BitVec 2) :
    sharedUse s p t = .port := by
  unfold sharedUse
  rw [h]
  dsimp only
  split <;> rfl

theorem portDrive_of_types_lost {s : State} (h : s.typesSet = false) (p : Port) (t : BitVec 2) :
    portDrive s p t = .low ∨ portDrive s p t = .released := by
  unfold portDrive
  rw [h]
  split
  · exact .inl rfl
  · exact .inr rfl

/-- An open-drain output drives no high level (70 R362). -/
theorem outputDrive_of_types_lost {s : State} (h : s.typesSet = false) (p : Port) (t : BitVec 2) :
    outputDrive s p t ∈ [Drive.low, .released, .off, .device] := by
  unfold outputDrive
  split
  · simp
  · split
    · rcases portDrive_of_types_lost h p t with e | e <;> simp [e]
    · simp
    · cases bitAt (latchOf s.latch p) t <;> simp [h]
    · simp

theorem pinDrive_of_types_lost {s : State} (h : s.typesSet = false) (p : Port) (t : BitVec 2) :
    pinDrive s p t ≠ some .pulledUp ∧ pinDrive s p t ≠ some .high := by
  have hout : outputDrive s p t ≠ .pulledUp ∧ outputDrive s p t ≠ .high := by
    have := outputDrive_of_types_lost h p t
    constructor <;> (intro e; simp [e] at this)
  unfold pinDrive
  split
  · split <;> simp [hout]
  · simp

/-! What decides which way a step goes on. -/

theorem step_of_reset {s : State} (h : resetTaken s.event s.boundary = true) :
    step s = .next (if s.phase = .asserted then s.boundary else s.boundary.resetFrom) := by
  rw [step, State.proceed, if_pos h, State.boundary_phase]

theorem step_of_sequence {s : State} (h : resetTaken s.event s.boundary = false) (hp : s.phase ≠ .out) :
    step s = .next (s.boundary.continueReset s.event.res) := by
  rw [step, State.proceed, if_neg (by simp [h]), State.boundary_phase, if_pos hp]

section
variable {s : State} (h : resetTaken s.event s.boundary = false) (hp : s.phase = .out)
include h hp

theorem step_of_hold (hm : s.mode = .hold) : step s = .next s.boundary := by
  rw [step, State.proceed, if_neg (by simp [h]), if_neg (by simp [hp]), State.boundary_mode, hm]

theorem step_of_interrupt (hm : s.mode ≠ .hold) {f : Fin 10} (ha : s.boundary.acceptable = some f) :
    step s = .next (s.boundary.enterInterrupt f) := by
  rw [step, State.proceed, if_neg (by simp [h]), if_neg (by simp [hp]), State.boundary_mode, ha]
  cases hmode : s.mode with
  | hold => exact absurd hmode hm
  | halt => rfl
  | run => rfl

theorem step_of_halt (hm : s.mode = .halt) (ha : s.boundary.acceptable = none) :
    step s = .next (if s.event.p0Release then { s.boundary with mode := .run } else s.boundary) := by
  rw [step, State.proceed, if_neg (by simp [h]), if_neg (by simp [hp]), State.boundary_mode, hm, ha]

theorem step_of_run (hm : s.mode = .run) (ha : s.boundary.acceptable = none) : step s = s.boundary.runInstr := by
  rw [step, State.proceed, if_neg (by simp [h]), if_neg (by simp [hp]), State.boundary_mode, hm, ha]

end

/-- A fetch reads PC and program memory, which a boundary keeps. -/
theorem State.fetch_boundary (s : State) : s.boundary.fetch = s.fetch := by
  simp only [State.fetch, State.boundary_pc, State.boundary_rom]

theorem State.readWord_boundary (s : State) (a : RamAddr) : s.boundary.readWord a = s.readWord a := by
  simp only [State.readWord, State.boundary_ram, State.boundary_ramEpoch]

/-! Reset. -/

theorem boundary_typesSet_of_res {s : State} (h : s.event.res = true) : s.boundary.typesSet = false := by
  unfold State.boundary
  split <;> simp [h]

/-- RES low takes the output types away, whatever the step does next (70 R360, R362). -/
theorem State.typesSet_of_stepsTo {s t : State} (h : s.event.res = true) (hs : s.StepsTo t) : t.typesSet = false := by
  have hb := boundary_typesSet_of_res h
  cases hs with
  | rest => exact hb
  | reset => rfl
  | sequence =>
    rw [h]
    unfold State.continueReset
    split
    case h_1 | h_2 => exact hb
    case h_3 hr _ | h_4 hr _ => exact nomatch hr
  | interrupt f => rw [State.enterInterrupt_typesSet, hb]
  | release => exact hb
  | instruction i t hp hm he => rw [exec_framed i _ t he]; exact hb

/-! The phases of the reset sequence. -/

theorem continueReset_asserted {t : State} (h : t.phase = .asserted) :
    t.continueReset false = { t with phase := .loading } := by
  simp only [State.continueReset, h]

theorem continueReset_loading {t : State} (h : t.phase = .loading) :
    t.continueReset false = { t with phase := .out, typesSet := true } := by
  simp only [State.continueReset, h]

theorem continueReset_held {t : State} (h : t.phase ≠ .out) :
    t.continueReset true = { t with phase := .asserted } := by
  unfold State.continueReset
  split
  case h_1 hp => exact absurd hp h
  case h_2 => rfl
  case h_3 hr _ | h_4 hr _ => exact nomatch hr

/-- Settles O9: which way the step goes is decided by the events; the state after is that of `resetFrom`. -/
theorem resetOfRunning : Obligations.ResetOfRunning := by
  refine ⟨fun s h => ?taken, fun s h => ⟨fun hres => ⟨fun hp => ?asserted, fun hp => ?loading⟩, fun hres hp => ?held⟩,
    fun s t hres hs => ?types⟩
  case taken =>
    have hr := step_of_reset ((resetTaken_boundary s).2 h)
    have hl : s.boundary.resetFrom.latch = resetLatches s.rom := by rw [← s.boundary_rom]; rfl
    refine ⟨fun hp => by rw [hr, if_pos hp], fun hp => ⟨s.boundary.resetFrom, by rw [hr, if_neg hp], rfl, rfl, rfl, rfl, rfl,
      rfl, s.boundary_rom, fun k => ?inverters, sharedUse_of_shared_reset rfl, ?p0, ?p1, ?p4, ?p5, rfl, rfl, rfl, rfl, rfl,
      rfl, rfl, rfl, fun hm a => ?words⟩⟩
    case inverters => cases k <;> rfl
    case p0 | p1 => rw [hl]; rfl
    case p4 =>
      rw [hl]
      exact level_not _
    case p5 =>
      rw [hl]
      exact level_not _
    case words => rw [State.readWord_resetFrom _ (s.boundary_mode.trans hm), State.readWord_boundary]
  case asserted => rw [step_of_sequence h (by simp [hp]), hres, continueReset_asserted (s.boundary_phase.trans hp)]
  case loading => rw [step_of_sequence h (by simp [hp]), hres, continueReset_loading (s.boundary_phase.trans hp)]
  case held => rw [step_of_sequence h hp, hres, continueReset_held (s.boundary_phase ▸ hp)]
  case types => exact pinDrive_of_types_lost (State.typesSet_of_stepsTo hres (State.stepsTo_of_step hs))

/-- Settles O8: each field evaluates; no inverter circuit and no device has a pin. -/
theorem resetState : Obligations.ResetState := by
  refine ⟨rfl, rfl, rfl, rfl, rfl, rfl, rfl, rfl, rfl, rfl, fun k => ?on, fun k => ?disabled,
    sharedUse_of_shared_reset rfl, rfl, rfl, rfl, rfl⟩
  case on => cases k <;> rfl
  case disabled => cases k <;> exact Bool.and_false _

/-! The sources that do not reset. -/

/-- What follows a boundary depends on its record through three things. -/
theorem State.proceed_congr (t : State) {ev ev' : EnvEvent} (hr : resetTaken ev t = resetTaken ev' t)
    (hres : t.phase = .out ∨ ev.res = ev'.res) (h0 : ev.p0Release = ev'.p0Release) : t.proceed ev = t.proceed ev' := by
  unfold State.proceed
  rw [hr, h0]
  rcases hres with hp | hres
  · simp only [hp, ne_eq, not_true_eq_false, if_false]
  · rw [hres]

/-- Settles O10: a source that does not reset leaves both the boundary and what follows it as they are. -/
theorem resetSourcesIgnored : Obligations.ResetSourcesIgnored := by
  intro s ev rest he
  have hev : s.event = ev := by rw [State.event, he]; rfl
  refine ⟨fun hpin hp => ⟨?step, fun hres => ?boundary⟩, fun hopt => ?watchdog⟩
  case step =>
    have hlow : holdPin s.boundary = false := by rw [holdPin, s.boundary_pins]; exact hpin
    rw [step, hev]
    refine State.proceed_congr _ ?_ (.inl (s.boundary_phase.trans hp)) rfl
    simp only [resetTaken, hlow, Bool.and_false]
  case boundary =>
    unfold State.boundary State.sampledPins State.event
    rw [he]
    simp only [List.headD_cons, List.tail_cons, hres]
    split <;> simp
  case watchdog =>
    have hb : State.boundary { s with env := { ev with watchdog := false } :: rest } = s.boundary := by
      simp only [State.boundary, State.sampledPins, State.event, he]; rfl
    have hw : watchdogPresent s.boundary.rom = false := by rw [s.boundary_rom]; exact hopt
    rw [step, step, hb, hev]
    show s.boundary.proceed ev = s.boundary.proceed { ev with watchdog := false }
    refine State.proceed_congr _ ?_ (.inr rfl) rfl
    simp only [resetTaken, hw, Bool.and_false]

/-! The step of a running machine. -/

/-- Settles O11: no reset and no interrupt leave the fetch and what it answers. -/
theorem stepRunsDecoded : Obligations.StepRunsDecoded := by
  intro s hm hp hr ha
  have hs : step s = s.boundary.runInstr := step_of_run hr hp hm ha
  refine ⟨fun i rest hd h1 h2 => ⟨?_, s.boundary_pc, s.boundary_rom⟩, fun r hf => ?_⟩
  · have hf : s.boundary.fetch = .ok i := s.fetch_boundary.trans ((s.fetch_ok i).2 ⟨h1, h2, rest, hd⟩)
    rw [hs, State.runInstr, hf]
  · rw [hs, State.runInstr, s.fetch_boundary, hf]

theorem stopOf_ne_badPlacement (i : Instr) (s : State) (a : RomAddr) : stopOf i s ≠ some (.badPlacement a) := by
  unfold stopOf oddStop noPortStop
  split <;> (try split) <;> nofun

/-- An instruction never stops for its placement: the fetch does. -/
theorem runInstr_eq_badPlacement_iff (t : State) (a : RomAddr) :
    t.runInstr = .fault (.badPlacement a) ↔ t.fetch = .error (.badPlacement a) := by
  unfold State.runInstr
  cases hf : t.fetch with
  | error r => simp
  | ok i =>
    simp only [reduceCtorEq, iff_false]
    intro he
    obtain ⟨hnext, hfault⟩ := execOutcomes i t
    cases hstop : stopOf i t with
    | none =>
      obtain ⟨u, hu⟩ := hnext hstop
      exact nomatch hu.symm.trans he
    | some r =>
      have := (hfault r hstop).symm.trans he
      injection this with this
      exact stopOf_ne_badPlacement i t a (this ▸ hstop)

/-- The first bytes of the two-byte codes, as numbers (30_encoding R105). -/
theorem lengthOf_eq_two_iff_ranges (b1 : Byte) :
    lengthOf b1 = some 2 ↔
      0x50 ≤ b1.toNat ∧ b1.toNat ≤ 0x57 ∨ 0x90 ≤ b1.toNat ∧ b1.toNat ≤ 0x9D ∨ 0xB0 ≤ b1.toNat ∧ b1.toNat ≤ 0xC9 ∨
        b1.toNat = 0xCD ∨ 0xCF ≤ b1.toNat ∧ b1.toNat ≤ 0xDD ∨ 0xE0 ≤ b1.toNat := by
  revert b1; decide

theorem inOptionArea_iff (a : RomAddr) : inOptionArea a = true ↔ 0x3FF0 ≤ a.toNat := by
  simp [inOptionArea]

theorem toNat_add_one (a : RomAddr) : (a + 1).toNat = (a.toNat + 1) % 16384 := by
  simp [BitVec.toNat_add]

/-- Settles O12: the fetch alone stops for the placement, and does so at these bytes. -/
theorem optionAreaFetchStops : Obligations.OptionAreaFetchStops := by
  intro s hm hp hr ha
  dsimp only
  rw [step_of_run hr hp hm ha, runInstr_eq_badPlacement_iff, s.fetch_boundary, s.fetch_eq_badPlacement_iff,
    lengthOf_eq_two_iff_ranges, inOptionArea_iff, inOptionArea_iff, toNat_add_one]
  have := s.pc.isLt
  omega

/-! The boundary and the standby modes. -/

/-- In hold mode and during the reset sequence no device of the machine changes. -/
theorem State.boundary_still {s : State} (h : s.mode = .hold ∨ s.phase ≠ .out) :
    s.boundary = { s with
      pins := s.boundary.pins, env := s.env.tail, draws := s.draws + 1, typesSet := s.typesSet && !s.event.res } := by
  rw [s.boundary_pins]
  exact if_pos h

/-- Settles O13: each device by its own field of the boundary. -/
theorem devicesAtBoundary : Obligations.DevicesAtBoundary := by
  intro s
  refine ⟨?frame, boundary_typesSet_of_res, fun hres ht => ?types, fun h0 => ?timer0, fun h1 => ?timer1, fun hs => ?serial,
    fun hm => ?halt, fun hm hp => ?requests, State.boundary_still, fun p hpin => ?pins⟩
  case frame =>
    rw [s.boundary_pins]
    exact s.boundary_eq
  case pins => rw [s.boundary_pins, State.sampledPins, hpin]; rfl
  case requests =>
    have running : ¬(s.mode = .hold ∨ s.phase ≠ .out) := by simp [hm, hp]
    rw [State.boundary, if_neg running]
    exact ⟨rfl, rfl⟩
  all_goals unfold State.boundary; split
  case types.isTrue | types.isFalse => simp [hres, ht]
  case timer0.isTrue | timer1.isTrue | halt.isTrue => simp
  case timer0.isFalse => simp [h0]
  case timer1.isFalse => simp [h1]
  case serial.isTrue | serial.isFalse => simp [hs]
  case halt.isFalse => simp [hm]

/-- Settles O56: in halt mode the release rules decide, in hold mode the boundary is all. -/
theorem standbySteps : Obligations.StandbySteps := by
  intro s hr hp
  refine ⟨fun hm ha h0 => ?_, fun hm ha h0 => ?_, fun hm => ?_⟩
  · rw [step_of_halt hr hp hm ha, h0]; rfl
  · rw [step_of_halt hr hp hm ha, h0]; rfl
  · rw [step_of_hold hr hp hm, State.boundary, if_pos (.inl hm)]

end Sys2Proof.Machine

/-! ### The stack: calls, returns, PUSH and POP (46 R242 to R248, 20_memory R68) -/

namespace Sys2Proof.Machine

/-- An answer of `next t` that reads as stated and differs from `t'` in data memory alone. -/
theorem AnswersWithMemory.intro {r : Result} {t t' : State} {f : RamAddr → Nibble} (h : r = .next t)
    (hw : ∀ b, t.readWord b = f b) (he : t = { t' with ram := t.ram }) : AnswersWithMemory r t' f :=
  ⟨t, h, hw, he⟩

theorem State.readWord_pushFrame_words (s : State) (ret : RomAddr) (b : RamAddr) :
    (s.pushFrame ret).readWord b = wordsWithFrame s (s.frame ret) b := s.readWord_pushFrame ret b

/-- A call from `s` leaves the frame with the address after it. -/
theorem State.readWord_call_words (s : State) (len target : RomAddr) (b : RamAddr) :
    (s.call len target).readWord b = wordsWithFrame s (s.frame (s.pc + len)) b :=
  (s.readWord_call len target b).trans ((s.advance len).readWord_pushFrame_words _ b)

theorem cal_target (p : BitVec 11) : (0#3 ++ p : RomAddr) = BitVec.ofNat 14 p.toNat := by
  apply BitVec.eq_of_toNat_eq
  have := p.isLt
  rw [BitVec.toNat_append, BitVec.toNat_ofNat]
  simp only [BitVec.toNat_ofNat, Nat.zero_mod, Nat.zero_shiftLeft, Nat.zero_or]
  omega

theorem czp_target (p : Nibble) : (0#8 ++ p ++ 0#2 : RomAddr) = BitVec.ofNat 14 (4 * p.toNat) := by
  revert p; decide

theorem State.answers_call {r : Result} (s : State) (len target : RomAddr) (h : r = .next (s.call len target)) :
    AnswersWithMemory r { s.advance len with pc := target, sp := s.sp - 4 }
      (wordsWithFrame s (BitVec.ofBool s.cf ++ BitVec.ofBool s.zf ++ (s.pc + len))) :=
  .intro h (s.readWord_call_words len target) (by
    conv_lhs => rw [State.call_eq]
    rw [State.call_ram])

/-- Settles O43: both calls are `State.call`, with its target in numbers. -/
theorem calls : Obligations.Calls := by
  intro s
  refine ⟨fun p => ?_, fun p => ?_⟩
  · rw [← cal_target]; exact s.answers_call 2 _ rfl
  · rw [← czp_target]; exact s.answers_call 1 _ rfl

theorem State.answers_pushPair {r : Result} (s : State) (len : RomAddr) (hi lo : Nibble)
    (h : r = .next ((s.advance len).pushPair (pairOf hi lo))) :
    AnswersWithMemory r { s.advance len with sp := s.sp - 2 } fun b =>
      if b = stackAddr s.sp then hi else if b = stackAddr (s.sp - 1) then lo else s.readWord b :=
  .intro h (fun b => by rw [State.readWord_pushPair, hiNib_pairOf, loNib_pairOf]; rfl) ((s.advance len).pushPair_eq _)

theorem exec_popHl (s : State) :
    exec .popHl s = .next { s.advance 2 with
      sp := s.sp + 2, dph := s.readWord (stackAddr (s.sp + 2)), dpl := s.readWord (stackAddr (s.sp + 1)) } := by
  rw [exec, execPopHl, State.topPair, hiNib_pairOf, loNib_pairOf]

theorem exec_popXy (s : State) :
    exec .popXy s = .next { s.advance 2 with
      sp := s.sp + 2, dpx := s.readWord (stackAddr (s.sp + 2)), dpy := s.readWord (stackAddr (s.sp + 1)) } := by
  rw [exec, execPopXy, State.topPair, hiNib_pairOf, loNib_pairOf]

theorem exec_popAe (s : State) :
    exec .popAe s = .next { s.advance 2 with
      sp := s.sp + 2, e := s.readWord (stackAddr (s.sp + 2)), ac := s.readWord (stackAddr (s.sp + 1)) } := by
  rw [exec, execPopAe, State.topPair, hiNib_pairOf, loNib_pairOf]

/-- Settles O44: PUSH by its two stores, POP by the halves of the pair it reads. -/
theorem pushAndPop : Obligations.PushAndPop := fun s =>
  ⟨s.answers_pushPair 2 _ _ rfl, s.answers_pushPair 2 _ _ rfl, s.answers_pushPair 2 _ _ rfl, exec_popHl s, exec_popXy s,
    exec_popAe s⟩

/-- Settles O45: the two returns, MSE as it was. -/
theorem returns : Obligations.Returns := fun _ => ⟨rfl, rfl⟩

/-! What was pushed is what comes back. -/

/-- From the SP and the words that a frame `w` pushed at `s` left, the frame read is `w`. -/
theorem State.topFrame_of_frame {s u : State} {w : BitVec 16} (hsp : u.sp = s.sp - 4)
    (hw : ∀ b, u.readWord b = wordsWithFrame s w b) : u.topFrame = w := by
  have back : ∀ a : Byte, a - 4 + 4 = a ∧ a - 4 + 3 = a - 1 ∧ a - 4 + 2 = a - 2 ∧ a - 4 + 1 = a - 3 := by decide
  have apart : ∀ a : Byte, a - 1 ≠ a ∧ a - 2 ≠ a ∧ a - 2 ≠ a - 1 ∧ a - 3 ≠ a ∧ a - 3 ≠ a - 1 ∧ a - 3 ≠ a - 2 := by decide
  obtain ⟨b4, b3, b2, b1⟩ := back s.sp
  obtain ⟨n1, n2, n3, n4, n5, n6⟩ := apart s.sp
  rw [State.topFrame, hsp, b4, b3, b2, b1]
  simp only [hw, wordsWithFrame, stackAddr_inj, n1, n2, n3, n4, n5, n6, if_true, if_false]
  exact frame_words w

/-- What RTI does from there. -/
theorem exec_rti_of_frame {s u : State} {ret : RomAddr} (hsp : u.sp = s.sp - 4)
    (hw : ∀ b, u.readWord b = wordsWithFrame s (s.frame ret) b) :
    ∃ v, exec .rti u = .next v ∧ v.pc = ret ∧ v.sp = s.sp ∧ v.cf = s.cf ∧ v.zf = s.zf := by
  have top := State.topFrame_of_frame hsp hw
  refine ⟨_, rfl, ?_, ?_, ?_, ?_⟩
  · rw [State.returnFromInterrupt_pc, top, State.frame_pc]
  · rw [State.returnFromInterrupt_sp, hsp, BitVec.sub_add_cancel]
  · rw [State.returnFromInterrupt_cf, top, State.frame_cf]
  · rw [State.returnFromInterrupt_zf, top, State.frame_zf]

theorem exec_rt_of_frame {s u : State} {ret : RomAddr} (hsp : u.sp = s.sp - 4)
    (hw : ∀ b, u.readWord b = wordsWithFrame s (s.frame ret) b) :
    ∃ v, exec .rt u = .next v ∧ v.pc = ret ∧ v.sp = s.sp ∧ v.cf = u.cf ∧ v.zf = u.zf := by
  have top := State.topFrame_of_frame hsp hw
  refine ⟨_, rfl, ?_, ?_, rfl, rfl⟩
  · rw [State.returnKeepFlags_pc, top, State.frame_pc]
  · rw [State.returnKeepFlags_sp, hsp, BitVec.sub_add_cancel]

theorem exec_call_eq {i : Instr} (s : State) (h : (∃ p, i = .cal p) ∨ (∃ p, i = .czp p)) :
    ∃ target, exec i s = .next (s.call (BitVec.ofNat 14 i.length) target) := by
  rcases h with ⟨p, rfl⟩ | ⟨p, rfl⟩ <;> exact ⟨_, rfl⟩

/-- Settles O59: interrupt entry and the calls leave a frame at SP, which the returns find. -/
theorem framesReturn : Obligations.FramesReturn := by
  refine ⟨fun s f => ?_, fun s t u i hi ht hsp hw => ?_⟩
  · obtain ⟨v, he, hpc, hs, hcf, hzf⟩ := exec_rti_of_frame (s.enterInterrupt_sp f) fun b =>
      (s.readWord_enterInterrupt f b).trans (s.readWord_pushFrame_words s.pc b)
    exact ⟨v, he, hpc, hcf, hzf, hs⟩
  · obtain ⟨target, hc⟩ := exec_call_eq s hi
    obtain rfl := Host.Outcome.next.inj (hc.symm.trans ht)
    have hsp' : u.sp = s.sp - 4 := hsp.trans (s.call_sp _ _)
    have hw' := fun b => (hw b).trans (s.readWord_call_words _ target b)
    exact ⟨exec_rt_of_frame hsp' hw', exec_rti_of_frame hsp' hw'⟩

/-- From the SP and the words that PUSH at `s` left, the words that POP reads are the pair. -/
theorem State.top_of_pushPair {s t u : State} {len : RomAddr} {hi lo : Nibble}
    (ht : t = (s.advance len).pushPair (pairOf hi lo)) (hsp : u.sp = t.sp) (hw : ∀ a, u.readWord a = t.readWord a) :
    u.sp + 2 = s.sp ∧ u.readWord (stackAddr (u.sp + 2)) = hi ∧ u.readWord (stackAddr (u.sp + 1)) = lo := by
  subst ht
  have sp2 : u.sp = s.sp - 2 := hsp.trans (State.pushPair_sp _ _)
  have e2 : u.sp + 2 = s.sp := by rw [sp2, BitVec.sub_add_cancel]
  have e1 : u.sp + 1 = s.sp - 1 := by
    have : ∀ a : Byte, a - 2 + 1 = a - 1 := by decide
    rw [sp2, this]
  refine ⟨e2, ?_, ?_⟩
  · rw [hw, e2, State.readWord_pushPair, hiNib_pairOf]
    exact if_pos rfl
  · rw [hw, e1, State.readWord_pushPair, loNib_pairOf]
    simp [stackAddr_inj]

/-- An address through HL is even when DPL is (20_memory R67). -/
theorem State.eaHl_getLsbD_zero (s : State) : s.eaHl.getLsbD 0 = s.dpl.getLsbD 0 := by
  rw [State.eaHl, pairOf, BitVec.getLsbD_append, if_pos (by decide), BitVec.getLsbD_append, if_pos (by decide)]

theorem exec_lae_of_even {s : State} (h : s.dpl.getLsbD 0 = false) :
    exec .lae s = .next { s.advance 1 with ac := s.readWord s.eaHl, e := s.readWord (nextWord s.eaHl) } :=
  (evenThen_next _ _ _).2 ⟨h, rfl⟩

/-- The two words that SAE stores. -/
theorem State.readWord_two_stores (s : State) (a b : RamAddr) (u v : Nibble) :
    ((s.writeWord a u).writeWord (nextWord a) v).readWord b =
      if b = a then u else if b = nextWord a then v else s.readWord b := by
  rw [State.readWord_writeWord, State.readWord_writeWord]
  have := nextWord_ne a
  by_cases h : b = a
  · subst h; simp [this.symm]
  · simp [h]

/-- Settles O60: the words that POP and LAE read are those that PUSH and SAE stored. -/
theorem pushThenPop : Obligations.PushThenPop := by
  refine ⟨fun s t u hsp hw => ⟨fun h => ?hl, fun h => ?xy, fun h => ?ae⟩, fun s t u h hea hw => ?lae⟩
  case hl =>
    obtain ⟨e, hi, lo⟩ := State.top_of_pushPair (Host.Outcome.next.inj h).symm hsp hw
    exact ⟨⟨_, exec_popHl u, hi, lo, e⟩, ⟨_, exec_popXy u, hi, lo, e⟩⟩
  case xy =>
    obtain ⟨e, hi, lo⟩ := State.top_of_pushPair (Host.Outcome.next.inj h).symm hsp hw
    exact ⟨_, exec_popXy u, hi, lo, e⟩
  case ae =>
    obtain ⟨e, hi, lo⟩ := State.top_of_pushPair (Host.Outcome.next.inj h).symm hsp hw
    exact ⟨_, exec_popAe u, hi, lo, e⟩
  case lae =>
    obtain ⟨heven, rfl⟩ := (evenThen_next _ _ _).1 h
    have heven' : u.dpl.getLsbD 0 = false := by rw [← u.eaHl_getLsbD_zero, hea, s.eaHl_getLsbD_zero, heven]
    refine ⟨_, exec_lae_of_even heven', ?_, ?_⟩
    · show u.readWord u.eaHl = s.ac
      rw [hea, hw, State.readWord_two_stores, if_pos rfl]
    · show u.readWord (nextWord u.eaHl) = s.e
      rw [hea, hw, State.readWord_two_stores, if_neg (nextWord_ne _), if_pos rfl]

end Sys2Proof.Machine

/-! ### Interrupts (60_exceptions R327 to R330) -/

namespace Sys2Proof.Machine

theorem acceptable_eq_none_iff (s : State) :
    s.acceptable = none ↔ s.mse = false ∨ s.bnk = true ∨ s.candidates = [] := by
  have hfirst : firstRanked s.candidates = none ↔ s.candidates = [] := by
    rcases firstRanked_spec s.candidates with ⟨he, hn⟩ | ⟨f, hf, hm, -⟩
    · exact ⟨fun _ => he, fun _ => hn⟩
    · exact ⟨fun h => (nomatch hf.symm.trans h), fun h => absurd (h ▸ hm) List.not_mem_nil⟩
  unfold State.acceptable
  cases s.mse <;> cases s.bnk <;> simp [hfirst]

theorem acceptable_eq_some {s : State} {f : Fin 10} (h : s.acceptable = some f) :
    f ∈ s.candidates ∧ ∀ g ∈ s.candidates, Config.irqRank f ≤ Config.irqRank g := by
  unfold State.acceptable at h
  split at h
  · rcases firstRanked_spec s.candidates with ⟨-, hn⟩ | ⟨f', hf, hm, hle⟩
    · exact nomatch hn.symm.trans h
    · obtain rfl := Option.some.inj (hf.symm.trans h)
      exact ⟨hm, hle⟩
  · exact nomatch h

/-- Settles O57: the candidates are the pending factors whose enable bit is 1. -/
theorem interruptAcceptance : Obligations.InterruptAcceptance := by
  intro s
  refine ⟨?none, fun f h => ?some⟩
  case none =>
    rw [acceptable_eq_none_iff, List.eq_nil_iff_forall_not_mem]
    simp only [mem_candidates]
    exact Iff.rfl
  case some =>
    obtain ⟨hm, hle⟩ := acceptable_eq_some h
    exact ⟨(mem_candidates s f).1 hm, fun g hg => hle g ((mem_candidates s g).2 hg)⟩

/-- Removing a request leaves the others. -/
theorem getLsbD_remove (pending : BitVec 10) (f g : Fin 10) :
    (pending &&& ~~~(1#10 <<< f.val)).getLsbD g.val = if g = f then false else pending.getLsbD g.val := by
  have mask : ∀ f g : Fin 10, (~~~(1#10 <<< f.val)).getLsbD g.val = !decide (g = f) := by decide
  rw [BitVec.getLsbD_and, mask]
  by_cases h : g = f <;> simp [h]

/-- The frame that entry pushes, in terms of the state before the boundary. -/
theorem wordsWithFrame_boundary (s : State) (w : BitVec 16) (b : RamAddr) :
    wordsWithFrame s.boundary w b = wordsWithFrame s w b := by
  simp only [wordsWithFrame, State.boundary_sp, State.readWord_boundary]

theorem frame_boundary (s : State) (ret : RomAddr) : s.boundary.frame ret = s.frame ret := by
  simp only [State.frame, State.boundary_cf, State.boundary_zf]

/-- Settles O58: entry is the one update of `enterInterrupt_eq`, its words those of a pushed frame. -/
theorem interruptEntry : Obligations.InterruptEntry := by
  intro s f hr hp hm ha
  refine ⟨_, .intro (step_of_interrupt hr hp hm ha) (fun b => ?words) ?frame, fun g => getLsbD_remove _ f g⟩
  case words =>
    rw [State.readWord_enterInterrupt, State.readWord_pushFrame_words, wordsWithFrame_boundary, frame_boundary,
      State.boundary_pc]
    rfl
  case frame =>
    conv_lhs => rw [State.enterInterrupt_eq]
    rw [State.enterInterrupt_ram, ← s.boundary_sp]
    rfl

end Sys2Proof.Machine

/-! ### Arithmetic in numbers (00_scope R11, R19) -/

namespace Sys2Proof.Machine

theorem isZero_eq_decide (v : Nibble) : isZero v = decide (v.toNat = 0) := by
  revert v; decide

theorem isZero_ofNat (n : Nat) : isZero (BitVec.ofNat 4 n) = decide (n % 16 = 0) := by
  rw [isZero_eq_decide, BitVec.toNat_ofNat]

theorem isZero_or (a m : Nibble) : isZero (a ||| m) = decide (a.toNat = 0 ∧ m.toNat = 0) := by
  revert a m; decide

theorem isZero_xor (a m : Nibble) : isZero (a ^^^ m) = decide (a = m) := by
  revert a m; decide

theorem not_eq_ofNat (v : Nibble) : ~~~v = BitVec.ofNat 4 (15 - v.toNat) := by
  revert v; decide

theorem isZero_not (v : Nibble) : isZero (~~~v) = decide (v.toNat = 15) := by
  revert v; decide

theorem add_one_eq_ofNat (v : Nibble) : v + 1 = BitVec.ofNat 4 (v.toNat + 1) := by
  revert v; decide

theorem isZero_add_one (v : Nibble) : isZero (v + 1) = decide (v.toNat = 15) := by
  revert v; decide

theorem sub_one_eq_ofNat (v : Nibble) : v - 1 = BitVec.ofNat 4 (v.toNat + 15) := by
  revert v; decide

theorem isZero_sub_one (v : Nibble) : isZero (v - 1) = decide (v.toNat = 1) := by
  revert v; decide

/-- RAL as a doubling: CF enters at bit 0 and bit 3 leaves (40_accumulator R149). -/
theorem rotLeft_eq (a : Nibble) (cf : Bool) :
    rotLeft a cf = (BitVec.ofNat 4 (2 * a.toNat + cf.toNat), decide (8 ≤ a.toNat)) := by
  revert a cf; decide

/-- The sum with its carry, in numbers (00_scope R19). -/
theorem add4_eq (a b : Nibble) (c : Bool) :
    add4 a b c = (BitVec.ofNat 4 (a.toNat + b.toNat + c.toNat), decide (16 ≤ a.toNat + b.toNat + c.toNat)) :=
  Prod.ext (add4_fst a b c) (add4_snd a b c)

/-- An increment carries out of 15 alone. -/
theorem add4_one_eq (v : Nibble) : add4 v 1 false = (v + 1, decide (v.toNat = 15)) := by
  revert v; decide

/-- A decrement borrows from 0 alone (DEC_CF = not_borrow, log 12). -/
theorem dec4_eq (v : Nibble) : dec4 Params.decCf v = (v - 1, decide (1 ≤ v.toNat)) := sub4_eq v 1

/-- What SUBC subtracts beside AC (42 R174; SUBC_BORROW_IN). -/
def borrowIn (p : Config.SubcBorrowIn) (cf : Bool) : Nat := if p = .literal then cf.toNat else 1 - cf.toNat

theorem subc4_eq (p : Config.SubcBorrowIn) (m a : Nibble) (cf : Bool) :
    subc4 p m a cf =
      (BitVec.ofNat 4 (m.toNat + 32 - a.toNat - borrowIn p cf), decide (a.toNat + borrowIn p cf ≤ m.toNat)) := by
  cases p <;> (revert m a cf; decide)

end Sys2Proof.Machine

/-! ### Accumulator, transfers, arithmetic and comparison (40_accumulator, 42, 44_data_pointer) -/

namespace Sys2Proof.Machine

/-- Settles O27: each is one write of the halves. -/
theorem pointerLoads : Obligations.PointerLoads := fun _ => ⟨fun _ => rfl, fun _ => rfl, fun _ => rfl⟩

/-- Settles O28: ZF is that of the value moved. -/
theorem transfersIntoAc : Obligations.TransfersIntoAc := by
  intro s
  simp only [← isZero_eq_decide]
  exact ⟨rfl, rfl, rfl, rfl, rfl⟩

/-- Settles O29: the step and its ZF, in numbers. -/
theorem pointerSteps : Obligations.PointerSteps := by
  intro s
  simp only [← add_one_eq_ofNat, ← isZero_add_one, ← sub_one_eq_ofNat, ← isZero_sub_one]
  exact ⟨rfl, rfl, rfl, rfl⟩

/-- Settles O30: LSK alone decides whether the load is skipped; CLA is LAI 0. -/
theorem loadImmediateWithSkip : Obligations.LoadImmediateWithSkip := by
  intro s i4
  rw [← isZero_eq_decide]
  exact ⟨fun h => ⟨congrArg _ (loadSkipping_loaded s i4 h), congrArg _ (loadSkipping_loaded s 0 h)⟩,
    fun h => ⟨congrArg _ (loadSkipping_skipped s i4 h), congrArg _ (loadSkipping_skipped s 0 h)⟩⟩

theorem exec_ral (s : State) :
    exec .ral s = .next { s.advance 1 with
      ac := BitVec.ofNat 4 (2 * s.ac.toNat + s.cf.toNat), cf := decide (8 ≤ s.ac.toNat),
      zf := decide ((2 * s.ac.toNat + s.cf.toNat) % 16 = 0) } := by
  rw [exec, execRal, rotLeft_eq, isZero_ofNat]

/-- Settles O31: each result and its ZF. -/
theorem logicIntoAc : Obligations.LogicIntoAc := by
  intro s
  simp only [← not_eq_ofNat, ← isZero_not, ← isZero_or, ← isZero_xor, ← isZero_eq_decide]
  exact ⟨rfl, exec_ral s, rfl, rfl, rfl⟩

theorem addToAc_eq (s : State) (len : RomAddr) (m : Nibble) (c : Bool) :
    addToAc s len m c = (s.advance len).withSum (s.ac.toNat + m.toNat + c.toNat) := by
  rw [addToAc, add4_eq, isZero_ofNat, State.withSum]

theorem addImmediate_eq (s : State) (i4 : Nibble) :
    addImmediate s i4 = { (s.advance 2).withSum (s.ac.toNat + i4.toNat) with cf := s.cf } := by
  rw [addImmediate, add4_eq, isZero_ofNat]
  rfl

/-- Settles O32: every addition is `addToAc` or `addImmediate`. -/
theorem additions : Obligations.Additions := by
  intro s
  exact ⟨congrArg _ (addToAc_eq s 1 1 false), congrArg _ (addToAc_eq s 1 s.mHl false),
    congrArg _ (addToAc_eq s 1 s.mHl s.cf), fun i8 => congrArg _ (addToAc_eq s 2 (s.readWord (s.eaDir i8)) false),
    fun i4 => congrArg _ (addImmediate_eq s i4), congrArg _ (addImmediate_eq s 6), congrArg _ (addImmediate_eq s 10)⟩

theorem exec_da (s : State) :
    exec .da s = .next { s.advance 1 with
      ac := s.ac - 1, cf := decide (1 ≤ s.ac.toNat), zf := isZero (s.ac - 1) } := by
  rw [exec, execDa, dec4_eq]

theorem subtractFromM_eq (p : Config.SubcBorrowIn) (s : State) :
    subtractFromM p s = { s.advance 1 with
      ac := BitVec.ofNat 4 (s.mHl.toNat + 32 - s.ac.toNat - borrowIn p s.cf)
      cf := decide (s.ac.toNat + borrowIn p s.cf ≤ s.mHl.toNat)
      zf := decide ((s.mHl.toNat + 32 - s.ac.toNat - borrowIn p s.cf) % 16 = 0) } := by
  rw [subtractFromM, subc4_eq, isZero_ofNat]

/-- Settles O33: DA is a decrement, SUBC its difference under either value of the parameter. -/
theorem subtractions : Obligations.Subtractions := by
  intro s
  dsimp only
  rw [← sub_one_eq_ofNat, ← isZero_sub_one]
  exact ⟨exec_da s, rfl, fun p => subtractFromM_eq p s⟩

theorem exec_cm (s : State) :
    exec .cm s = .next { s.advance 1 with
      cf := decide ((s.readWord s.eaHl).toNat ≤ s.ac.toNat), zf := decide (s.readWord s.eaHl = s.ac) } :=
  congrArg _ (compareAc_eq s 1 s.mHl)

/-- Settles O37: CM by the comparison, CLI and CMB by the equality they test. -/
theorem comparisons : Obligations.Comparisons := fun s => ⟨exec_cm s, fun _ => rfl, fun _ => rfl⟩

end Sys2Proof.Machine

/-! ### Data memory (41_memory_manipulation, 42 R178, R179, 43_load_store) -/

namespace Sys2Proof.Machine

/-- An instruction that stores one word, and whatever else `t'` says, answers with that word replaced. -/
theorem AnswersWithMemory.of_storeAt {r : Result} {s t t' : State} {len : RomAddr} {a : RamAddr} {v : Nibble}
    (h : r = .next t) (hram : t.ram = (s.storeAt len a v).ram) (he : t.ramEpoch = s.ramEpoch)
    (ht : t = { t' with ram := t.ram }) : AnswersWithMemory r t' (wordsWith s a v) := by
  refine .intro h (fun b => ?_) ht
  rw [State.readWord, hram, he]
  exact s.readWord_storeAt len a b v

theorem incrementWord_eq (s : State) (len : RomAddr) (a : RamAddr) :
    incrementWord s len a = { s.storeAt len a (s.readWord a + 1) with
      cf := decide ((s.readWord a).toNat = 15), zf := decide ((s.readWord a).toNat = 15) } := by
  rw [incrementWord, add4_one_eq, isZero_add_one]

theorem decrementWord_eq (s : State) (len : RomAddr) (a : RamAddr) :
    decrementWord Params.decCf s len a = { s.storeAt len a (s.readWord a - 1) with
      cf := decide (1 ≤ (s.readWord a).toNat), zf := decide ((s.readWord a).toNat = 1) } := by
  rw [decrementWord, dec4_eq, isZero_sub_one]

/-- Settles O34: each stores the word stepped. -/
theorem memorySteps : Obligations.MemorySteps := by
  intro s i8
  dsimp only
  simp only [← add_one_eq_ofNat, ← sub_one_eq_ofNat]
  exact ⟨.of_storeAt (congrArg Host.Outcome.next (incrementWord_eq s 1 s.eaHl)) rfl rfl rfl,
    .of_storeAt (congrArg Host.Outcome.next (decrementWord_eq s 1 s.eaHl)) rfl rfl rfl,
    .of_storeAt (congrArg Host.Outcome.next (incrementWord_eq s 2 (s.eaDir i8))) rfl rfl rfl,
    .of_storeAt (congrArg Host.Outcome.next (decrementWord_eq s 2 (s.eaDir i8))) rfl rfl rfl⟩

/-- Settles O35: each stores its result at HL. -/
theorem logicIntoMemory : Obligations.LogicIntoMemory := by
  intro s t2
  dsimp only
  simp only [← isZero_or, ← isZero_eq_decide]
  exact ⟨.of_storeAt (len := 1) rfl rfl rfl rfl, .of_storeAt (len := 1) rfl rfl rfl rfl,
    .of_storeAt (len := 1) rfl rfl rfl rfl, .of_storeAt (len := 1) rfl rfl rfl rfl⟩

/-- Settles O38: the even case of both, and the two stores of SAE. -/
theorem twoWordLoadStore : Obligations.TwoWordLoadStore := fun s heven =>
  ⟨exec_lae_of_even heven, .intro ((evenThen_next _ _ _).2 ⟨heven, rfl⟩)
    ((s.advance 1).readWord_two_stores s.eaHl · s.ac s.e) rfl⟩

/-- Settles O39: the word read, then the pointer stepped. -/
theorem loadsFromMemory : Obligations.LoadsFromMemory := by
  intro s
  simp only [← isZero_eq_decide, ← add_one_eq_ofNat, ← isZero_add_one, ← sub_one_eq_ofNat, ← isZero_sub_one]
  exact ⟨fun _ => rfl, fun _ => rfl, rfl, rfl, rfl, rfl⟩

/-- Settles O40: one store each, at the address formed before the pointer is stepped. -/
theorem storesAndExchanges : Obligations.StoresAndExchanges := by
  intro s
  simp only [← add_one_eq_ofNat, ← isZero_add_one, ← sub_one_eq_ofNat, ← isZero_sub_one]
  exact ⟨.of_storeAt (len := 1) rfl rfl rfl rfl, fun r => .of_storeAt (len := 1) rfl rfl rfl rfl,
    fun i8 => .of_storeAt (len := 2) rfl rfl rfl rfl, .of_storeAt (len := 1) rfl rfl rfl rfl,
    .of_storeAt (len := 1) rfl rfl rfl rfl, .of_storeAt (len := 1) rfl rfl rfl rfl,
    .of_storeAt (len := 1) rfl rfl rfl rfl⟩

/-- P4 and P5 have an output pin for each bit (20_memory R69). -/
theorem latchWrite_p4 (l : Latches) (v : Nibble) : latchWrite l .p4 v = { l with p4 := v } := by
  have full : v &&& outputBits .p4 = v := by revert v; decide
  rw [latchWrite, full]

theorem latchWrite_p5 (l : Latches) (v : Nibble) : latchWrite l .p5 v = { l with p5 := v } := by
  have full : v &&& outputBits .p5 = v := by revert v; decide
  rw [latchWrite, full]

/-- Two writes of the I/O ports 4 and 5. -/
theorem State.portWrite_io_45 (t : State) (u v : Nibble) :
    (t.portWrite false 4 u).portWrite false 5 v = { t with latch := { t.latch with p4 := u, p5 := v } } := by
  rw [State.portWrite_io _ 4 u .p4 rfl, State.portWrite_io _ 5 v .p5 rfl, latchWrite_p4, latchWrite_p5]

/-- Settles O41: the page is the one that `keptPage` gives. -/
theorem tableReads : Obligations.TableReads := fun s =>
  ⟨keptPage s.pc (s.pc + 1), keptPage_or _ _, rfl, congrArg _ (State.portWrite_io_45 _ _ _)⟩

end Sys2Proof.Machine

/-! ### Jumps and branches (46, 47_branch, 49 R311, R312) -/

namespace Sys2Proof.Machine

/-- The low bits are the operand, the high bits the page kept. -/
theorem page_append_keptPage (own npc : RomAddr) (p : Byte) :
    (keptPage own npc ++ p : RomAddr).extractLsb' 0 8 = p ∧
      ((keptPage own npc ++ p : RomAddr).extractLsb' 8 6 = own.extractLsb' 8 6 ∨
        (keptPage own npc ++ p : RomAddr).extractLsb' 8 6 = npc.extractLsb' 8 6) := by
  rw [page_append_low, page_append_page]
  exact ⟨rfl, keptPage_or own npc⟩

/-- Settles O42: the fields of the address that each jump puts together. -/
theorem jumps : Obligations.Jumps := by
  intro s
  refine ⟨fun p => ⟨_, rfl, rfl, bank_append_low _ _, keptBank s.pc (s.pc + 2), keptBank_or _ _, bank_append_bank _ _⟩,
    _, rfl, rfl, page_append_keptPage s.pc (s.pc + 1) s.ae⟩

/-- Settles O46: each changes PC and the latches alone. -/
theorem bankNopSb : Obligations.BankNopSb := fun _ => ⟨rfl, rfl, fun _ => rfl⟩

/-- A branch answers as R255 says, whatever decides it. -/
theorem State.branchAnswer (s : State) (cond : Bool) (p : Byte) : BranchAnswer (.next (s.branch cond p)) s cond p := by
  refine ⟨_, rfl, ?_, ?_, ?_⟩
  · cases cond <;> rfl
  · rintro rfl; rfl
  · rintro rfl; exact page_append_keptPage s.pc (s.pc + 2) p

/-- Settles O47: every branch is `State.branch` on its condition. -/
theorem branches : Obligations.Branches := fun s p =>
  ⟨fun _ => ⟨s.branchAnswer _ p, s.branchAnswer _ p, s.branchAnswer _ p, s.branchAnswer _ p⟩, s.branchAnswer _ p,
    s.branchAnswer _ p, s.branchAnswer _ p, s.branchAnswer _ p, fun _ => ⟨s.branchAnswer _ p, s.branchAnswer _ p⟩⟩

end Sys2Proof.Machine

/-! ### Timers, enables, standby, serial (49_system_control, 45_flag R236) -/

namespace Sys2Proof.Machine

theorem append_three_eq_ofNat (a b c : Nibble) :
    (a ++ b ++ c : BitVec 12) = BitVec.ofNat 12 (256 * a.toNat + 16 * b.toNat + c.toNat) := by
  apply BitVec.eq_of_toNat_eq
  have ha := a.isLt
  have hb := b.isLt
  have hc := c.isLt
  rw [BitVec.toNat_append, ← Nat.shiftLeft_add_eq_or_of_lt hc, BitVec.toNat_append, ← Nat.shiftLeft_add_eq_or_of_lt hb,
    BitVec.toNat_ofNat, Nat.shiftLeft_eq, Nat.shiftLeft_eq]
  omega

/-- The three parts of a timer value (log 38). -/
theorem timer_parts (v : BitVec 12) :
    v.extractLsb' 0 4 = BitVec.ofNat 4 v.toNat ∧ v.extractLsb' 4 4 = BitVec.ofNat 4 (v.toNat / 16) ∧
      v.extractLsb' 8 4 = BitVec.ofNat 4 (v.toNat / 256) :=
  ⟨rfl, congrArg _ (Nat.shiftRight_eq_div_pow _ 4), congrArg _ (Nat.shiftRight_eq_div_pow _ 8)⟩

/-- Settles O52: the even case of WTTM0 and RTIM0, the rest one write each. -/
theorem timers : Obligations.Timers := by
  intro s
  obtain ⟨low, middle, high⟩ := timer_parts s.t0Count
  rw [← append_three_eq_ofNat, ← low, ← middle, ← high]
  exact ⟨fun heven => ⟨(evenThen_next _ _ _).2 ⟨heven, rfl⟩, .intro ((evenThen_next _ _ _).2 ⟨heven, rfl⟩)
    ((s.advance 1).readWord_two_stores s.eaHl · _ _) rfl⟩, rfl, rfl, ⟨_, rfl⟩, ⟨_, rfl⟩, rfl, rfl⟩

/-- ZF of RFB: the group of four that holds the flag (45_flag R236; log 14). -/
theorem isZero_flagGroup (f : BitVec 16) (n : Nibble) :
    isZero (flagGroup f n) = decide (f.toNat / 16 ^ (n.toNat / 4) % 16 = 0) := by
  rw [isZero_eq_decide, flagGroup, BitVec.extractLsb'_toNat, Nat.shiftRight_eq_div_pow, Nat.pow_mul]

/-- Settles O53: each by its mask, ZF of the four bits left. -/
theorem enableBitsAndFlagClear : Obligations.EnableBitsAndFlagClear := by
  intro s
  simp only [← isZero_eq_decide, ← isZero_flagGroup]
  exact ⟨rfl, rfl, fun _ => ⟨rfl, rfl, rfl, rfl⟩, fun _ => rfl⟩

/-- Settles O54: only WTSIO has a case, whether a transfer runs. -/
theorem stackPointerAndSerial : Obligations.StackPointerAndSerial := by
  intro s
  refine ⟨rfl, rfl, rfl, rfl, fun h => ?_, fun h => ⟨Config.freeSio s.draws, ?_⟩⟩
  · rw [exec, execWtsio, h]; rfl
  · rw [exec, execWtsio, h]; rfl

/-- Settles O55: the level of P33/HOLD decides what HOLD does. -/
theorem standbyEntry : Obligations.StandbyEntry := by
  intro s
  refine ⟨rfl, fun h => ?_, fun h => ?_⟩
  · rw [exec, execHold, holdPin, h]; rfl
  · rw [exec, execHold, holdPin, h]; rfl

end Sys2Proof.Machine

/-! ### Port instructions (48_io, 47_branch R260, R261) -/

namespace Sys2Proof.Machine

/-! The shared port operations on a port and on a control register. -/

theorem advanceIo_port {s : State} (h : s.bnk = false) (len : RomAddr) : s.advanceIo len = s.advance len := by
  rw [State.advanceIo, h]
  rfl

theorem advanceIo_bank {s : State} (h : s.bnk = true) (len : RomAddr) :
    s.advanceIo len = { s.advance len with draws := s.draws + 1 } := by
  rw [State.advanceIo, h]
  rfl

theorem portRead_of_portOf {s : State} {n : Nibble} {p : Port} (h : s.bnk = false) (hp : portOf n = some p) :
    portRead s n = some (pinRead s p) := by
  rw [portRead_port s n h, hp]
  rfl

theorem inputThen_port {s : State} {n : Nibble} {p : Port} (h : s.bnk = false) (hp : portOf n = some p)
    (k : Nibble → State) : inputThen s n k = .next (k (pinRead s p)) :=
  (inputThen_next s n k _).2 ⟨_, portRead_of_portOf h hp, rfl⟩

theorem inputThen_bank {s : State} (h : s.bnk = true) (n : Nibble) (k : Nibble → State) :
    inputThen s n k = .next (k (Config.freeControl s.draws n)) :=
  (inputThen_next s n k _).2 ⟨_, portRead_bank s n h, rfl⟩

theorem inputToAc_port {s : State} {n : Nibble} {p : Port} (h : s.bnk = false) (hp : portOf n = some p) (len : RomAddr) :
    inputToAc s len n = .next { s.advance len with ac := pinRead s p, zf := isZero (pinRead s p) } := by
  rw [inputToAc, inputThen_port h hp, advanceIo_port h]

theorem inputToAc_bank {s : State} (h : s.bnk = true) (len : RomAddr) (n : Nibble) :
    inputToAc s len n = .next { s.advance len with
      ac := Config.freeControl s.draws n, zf := isZero (Config.freeControl s.draws n), draws := s.draws + 1 } := by
  rw [inputToAc, inputThen_bank h, advanceIo_bank h]

theorem outputTo_port {s : State} {n : Nibble} {p : Port} (h : s.bnk = false) (hp : portOf n = some p) (len : RomAddr)
    (v : Nibble) : outputTo s len n v = .next { s.advance len with latch := latchWrite s.latch p v } := by
  refine (outputTo_next s len n v _).2 ⟨.inr (by rw [hp]; rfl), ?_⟩
  rw [h, State.portWrite_io _ n v p hp]
  rfl

theorem outputTo_bank {s : State} (h : s.bnk = true) (len : RomAddr) (n v : Nibble) :
    outputTo s len n v = .next { s.advance len with ctl := s.ctl.set n.toNat v n.isLt } := by
  refine (outputTo_next s len n v _).2 ⟨.inl h, ?_⟩
  rw [h]
  rfl

theorem modifyPort_port {s : State} {n : Nibble} {p : Port} (h : s.bnk = false) (hp : portOf n = some p) (len : RomAddr)
    (g : Nibble → Nibble) (k : Nibble → State → State) :
    modifyPort s len n g k =
      .next (k (g (pinRead s p)) { s.advance len with latch := latchWrite s.latch p (g (pinRead s p)) }) := by
  refine (modifyPort_next s len n g k _).2 ⟨_, portRead_of_portOf h hp, ?_⟩
  rw [h, State.portWrite_io _ n _ p hp, advanceIo_port h]
  rfl

theorem modifyPort_bank {s : State} (h : s.bnk = true) (len : RomAddr) (n : Nibble) (g : Nibble → Nibble)
    (k : Nibble → State → State) :
    modifyPort s len n g k =
      .next (k (g (Config.freeControl s.draws n)) { s.advance len with
        ctl := s.ctl.set n.toNat (g (Config.freeControl s.draws n)) n.isLt, draws := s.draws + 1 }) := by
  refine (modifyPort_next s len n g k _).2 ⟨_, portRead_bank s n h, ?_⟩
  rw [h, advanceIo_bank h]
  rfl

/-- An answer whose only other change is the write of one port's latch. -/
theorem AnswersWithPort.of_latchWrite {r : Result} {s t t' : State} {p : Port} {v : Nibble} (h : r = .next t)
    (hl : t.latch = latchWrite s.latch p v) (ht : t = { t' with latch := t.latch }) : AnswersWithPort r s t' p v :=
  ⟨t, h, fun q => by rw [hl, latchOf_latchWrite], ht⟩

/-! The branches on a port bit. -/

theorem branchOnPort_port {s : State} {q : Port} (h : s.bnk = false) (hp : portOf s.dpl = some q) (x : Bool)
    (t2 : BitVec 2) (p : Byte) :
    branchOnPort x t2 p s = .next (s.branch (bitAt (pinRead s q) t2 == x) p) := by
  rw [branchOnPort, inputThen_port h hp, h, State.branch_eq]
  rfl

theorem branchOnPort_bank {s : State} (h : s.bnk = true) (x : Bool) (t2 : BitVec 2) (p : Byte) :
    branchOnPort x t2 p s =
      .next (State.branch { s with draws := s.draws + 1 } (bitAt (Config.freeControl s.draws s.dpl) t2 == x) p) := by
  rw [branchOnPort, inputThen_bank h, h, State.branch_eq, State.branch_eq]
  rfl

/-- Settles O48: the bit tested is that of the pins, or directly after BANK a free one. -/
theorem branchesOnPort : Obligations.BranchesOnPort := by
  intro s t2 p
  refine ⟨fun q h hp => ?port, fun h => ?bank⟩
  case port =>
    rw [exec, execBp, branchOnPort_port h hp, exec, execBnp, branchOnPort_port h hp, beq_true, beq_false]
    exact ⟨s.branchAnswer _ p, s.branchAnswer _ p⟩
  case bank =>
    rw [exec, execBp, branchOnPort_bank h, exec, execBnp, branchOnPort_bank h, beq_true, beq_false]
    exact ⟨State.branchAnswer _ _ p, State.branchAnswer _ _ p⟩

/-! The instructions that read and write ports. -/

theorem exec_ip45_of_reads {s : State} {u v : Nibble} (h4 : portRead s 4 = some u) (h5 : portRead s 5 = some v) :
    exec .ip45 s = .next { s.advanceIo 2 with e := u, ac := v } :=
  (execIp45_next s _).2 ⟨u, v, h4, h5, rfl⟩

/-- Settles O49: the value read is that of the pins, or directly after BANK a free one. -/
theorem portInputs : Obligations.PortInputs := by
  intro s
  simp only [← isZero_eq_decide]
  refine ⟨fun h => ⟨inputToAc_port h rfl 1, ?ip45, fun p hp => ⟨inputToAc_port h hp 1, ?ipm⟩,
    fun n p hp => inputToAc_port h hp 2⟩, fun h => ⟨inputToAc_bank h 1 0, ?ip45Bank, inputToAc_bank h 1 s.dpl, ?ipmBank,
    inputToAc_bank h 2⟩⟩
  case ip45 =>
    rw [exec_ip45_of_reads (portRead_of_portOf h rfl) (portRead_of_portOf h rfl), advanceIo_port h]
  case ip45Bank => rw [exec_ip45_of_reads (portRead_bank s 4 h) (portRead_bank s 5 h), advanceIo_bank h]
  case ipm => refine .of_storeAt (len := 1) (inputThen_port h hp _) ?_ rfl ?_ <;> rw [advanceIo_port h] <;> rfl
  case ipmBank => refine .of_storeAt (len := 1) (inputThen_bank h s.dpl _) ?_ rfl ?_ <;> rw [advanceIo_bank h] <;> rfl

/-- Settles O50: one write of a latch, or directly after BANK of a control register; OP45 makes two. -/
theorem portOutputs : Obligations.PortOutputs := by
  intro s
  refine ⟨fun h => ⟨fun p hp => ⟨.of_latchWrite (outputTo_port h hp 1 s.ac) rfl rfl,
      .of_latchWrite (outputTo_port h hp 1 s.mHl) rfl rfl⟩,
    fun n p hp => .of_latchWrite (outputTo_port h hp 2 s.ac) rfl rfl, ?op45⟩,
    fun h => ⟨outputTo_bank h 1 s.dpl s.ac, outputTo_bank h 1 s.dpl s.mHl, fun n => outputTo_bank h 2 n s.ac, ?op45Bank⟩⟩
  case op45 => rw [exec, execOp45, h, State.portWrite_io_45]; rfl
  case op45Bank => rw [exec, execOp45, h]; rfl

theorem exec_spb (t2 : BitVec 2) (s : State) :
    exec (.spb t2) s = modifyPort s 1 s.dpl (setBit · t2 true) fun _ t => t := rfl

theorem exec_rpb (t2 : BitVec 2) (s : State) :
    exec (.rpb t2) s = modifyPort s 1 s.dpl (setBit · t2 false) fun r t => { t with zf := isZero r } := rfl

theorem exec_andpdr (i4 p4 : Nibble) (s : State) :
    exec (.andpdr i4 p4) s = modifyPort s 2 p4 (· &&& i4) fun r t => { t with zf := isZero r } := rfl

theorem exec_orpdr (i4 p4 : Nibble) (s : State) :
    exec (.orpdr i4 p4) s = modifyPort s 2 p4 (· ||| i4) fun r t => { t with zf := isZero r } := rfl

/-- Settles O51: each is a read-modify-write of one port, or directly after BANK of one control register. -/
theorem portModifications : Obligations.PortModifications := by
  intro s
  simp only [← isZero_eq_decide]
  refine ⟨fun h => ⟨fun p t2 hp => ⟨?_, ?_⟩, fun n i4 p hp => ⟨?_, ?_⟩⟩, fun h => ⟨fun t2 => ⟨?_, ?_⟩, fun i4 n => ⟨?_, ?_⟩⟩⟩
  · exact .of_latchWrite ((exec_spb t2 s).trans (modifyPort_port h hp 1 _ _)) rfl rfl
  · exact .of_latchWrite ((exec_rpb t2 s).trans (modifyPort_port h hp 1 _ _)) rfl rfl
  · exact .of_latchWrite ((exec_andpdr i4 n s).trans (modifyPort_port h hp 2 _ _)) rfl rfl
  · exact .of_latchWrite ((exec_orpdr i4 n s).trans (modifyPort_port h hp 2 _ _)) rfl rfl
  · rw [exec_spb, modifyPort_bank h]
  · rw [exec_rpb, modifyPort_bank h]
  · rw [exec_andpdr, modifyPort_bank h]
  · rw [exec_orpdr, modifyPort_bank h]

end Sys2Proof.Machine

/-! ### Addresses (20_memory R63 to R68) -/

namespace Sys2Proof.Machine

/-- B selects the upper half of data memory (20_memory R63). -/
theorem bank_append_toNat (b : Bool) (v : Byte) : (BitVec.ofBool b ++ v : RamAddr).toNat = 256 * b.toNat + v.toNat := by
  rw [BitVec.toNat_append, ← Nat.shiftLeft_add_eq_or_of_lt v.isLt, Nat.shiftLeft_eq, BitVec.toNat_ofBool, Nat.mul_comm]

/-- The word after an even address is in the same bank. -/
theorem nextWord_toNat_of_even (a : RamAddr) (h : a.getLsbD 0 = false) : (nextWord a).toNat = a.toNat + 1 := by
  revert a; decide

/-- Settles O6: each address is B and a byte. -/
theorem effectiveAddresses : Obligations.EffectiveAddresses := by
  intro s
  refine ⟨?hl, ?xy, rfl, rfl, fun i8 => bank_append_toNat s.bnk i8, fun a => ?stack, fun len => rfl, fun h => ?next⟩
  case hl => rw [State.eaHl, bank_append_toNat, pairOf_toNat, Nat.add_assoc]
  case xy => rw [State.eaXy, bank_append_toNat, pairOf_toNat, Nat.add_assoc]
  case stack => exact (bank_append_toNat false a).trans (Nat.zero_add _)
  case next => exact nextWord_toNat_of_even _ (s.eaHl_getLsbD_zero.trans h)

end Sys2Proof.Machine

/-! ### Ports and pins (20_memory R69, R71, R77; 48_io R270; 60_exceptions R337 to R344) -/

namespace Sys2Proof.Machine

/-! Bits of a word. -/

theorem bitAt_and (u v : Nibble) (t : BitVec 2) : bitAt (u &&& v) t = (bitAt u t && bitAt v t) :=
  BitVec.getLsbD_and

theorem bitAt_or (u v : Nibble) (t : BitVec 2) : bitAt (u ||| v) t = (bitAt u t || bitAt v t) :=
  BitVec.getLsbD_or

theorem bitAt_not (v : Nibble) (t : BitVec 2) : bitAt (~~~v) t = !bitAt v t := by
  revert v t; decide

theorem bitAt_zero (t : BitVec 2) : bitAt 0#4 t = false := BitVec.getLsbD_zero

/-- A half of a byte, bit by bit. -/
theorem bitAt_extractLsb' (v : Byte) (k : Nat) (t : BitVec 2) : bitAt (v.extractLsb' k 4) t = v.getLsbD (k + t.toNat) := by
  rw [bitAt, BitVec.getLsbD_extractLsb', decide_eq_true t.isLt, Bool.true_and]

/-! The option bits. -/

/-- The option bits of P3, which has no output pin 3. -/
theorem bitAt_p3_options : ∀ (v : Byte) (t : BitVec 2),
    bitAt (0#1 ++ v.extractLsb' 4 3) t = (bitAt (outputBits .p3) t && v.getLsbD (4 + t.toNat)) := by
  decide

/-- The option bits of PC, which has the pins 2 and 3 alone. -/
theorem bitAt_pc_options : ∀ (v : Byte) (t : BitVec 2),
    bitAt (v.extractLsb' 2 2 ++ 0#2) t = (bitAt (outputBits .pc) t && v.getLsbD t.toNat) := by
  decide

/-- The option bit that selects an output type (20_memory R77). -/
def outputTypeBit (rom : Memory 8) (p : Port) (t : BitVec 2) : Bool :=
  match p with
  | .p0 => (romByte rom 0x3FF1).getLsbD t.toNat
  | .p1 => (romByte rom 0x3FF1).getLsbD (4 + t.toNat)
  | .p2 => (romByte rom 0x3FF2).getLsbD t.toNat
  | .p3 => (romByte rom 0x3FF2).getLsbD (4 + t.toNat)
  | .p4 => (romByte rom 0x3FF3).getLsbD t.toNat
  | .p5 => (romByte rom 0x3FF3).getLsbD (4 + t.toNat)
  | .p6 => (romByte rom 0x3FF4).getLsbD t.toNat
  | .pc => (romByte rom 0x3FF7).getLsbD t.toNat
  | .pd | .pe => false

/-- A pin has the type its option bit selects; where there is no output pin the type is open-drain. -/
theorem bitAt_outputTypePu (rom : Memory 8) (p : Port) (t : BitVec 2) :
    bitAt (outputTypePu rom p) t = (bitAt (outputBits p) t && outputTypeBit rom p t) := by
  have full : bitAt 15#4 t = true := by revert t; decide
  cases p
  case p0 | p2 | p4 | p6 => exact (bitAt_extractLsb' _ 0 t).trans (by simp [outputBits, full, outputTypeBit, optionByte])
  case p1 | p5 => exact (bitAt_extractLsb' _ 4 t).trans (by simp [outputBits, full, outputTypeBit, optionByte])
  case p3 => exact bitAt_p3_options _ t
  case pc => exact bitAt_pc_options _ t
  case pd | pe => exact (bitAt_zero t).trans (Bool.and_false _).symm

/-- Four ports have CMOS for the pull-up type (20_memory R71). -/
theorem bitAt_cmosPins (rom : Memory 8) (p : Port) (t : BitVec 2) :
    bitAt (cmosPins rom p) t = true ↔
      (p = .p2 ∨ p = .p3 ∨ p = .p6 ∨ p = .pc) ∧ bitAt (outputBits p) t = true ∧ bitAt (outputTypePu rom p) t = true := by
  cases p
  case p2 | p3 | p6 | pc => simp [cmosPins, bitAt_outputTypePu]
  all_goals simp [cmosPins, bitAt_zero]

/-! What a bit of a port reads. -/

theorem bitAt_heldLow (s : State) (p : Port) (t : BitVec 2) :
    bitAt (heldLow s p) t = (bitAt (outputBits p) t && !bitAt (latchOf s.latch p) t) := by
  rw [heldLow, bitAt_and, bitAt_not]

theorem bitAt_padLevels (s : State) (p : Port) (t : BitVec 2) :
    bitAt (padLevels s p) t = (bitAt (pinLevels s.pins p) t && !bitAt (heldLow s p) t) := by
  rw [padLevels, bitAt_and, bitAt_not]

theorem bitAt_undecidedPins (s : State) (p : Port) (t : BitVec 2) :
    bitAt (undecidedPins s p) t =
      ((bitAt (cmosPins s.rom p) t || bitAt (disabledPins s p) t) && !bitAt (heldLow s p) t) := by
  rw [undecidedPins, bitAt_and, bitAt_or, bitAt_not]

theorem bitAt_pinRead (s : State) (p : Port) (t : BitVec 2) :
    bitAt (pinRead s p) t =
      if bitAt (undecidedPins s p) t then bitAt (Config.freePinRead s.draws p) t else bitAt (padLevels s p) t := by
  unfold pinRead
  dsimp only
  split
  next h => simp [h, bitAt_zero]
  next =>
    rw [bitAt_or, bitAt_and, bitAt_and, bitAt_not]
    cases bitAt (undecidedPins s p) t <;> simp

/-- What a bit of a port reads, case by case (48_io R270, 20_memory R71; 93 U20). -/
theorem bitAt_pinRead_cases (s : State) (p : Port) (t : BitVec 2) :
    bitAt (pinRead s p) t =
      if bitAt (outputBits p) t = true ∧ bitAt (latchOf s.latch p) t = false then false
      else if bitAt (cmosPins s.rom p) t = true ∨ bitAt (disabledPins s p) t = true then
        bitAt (Config.freePinRead s.draws p) t
      else bitAt (pinLevels s.pins p) t := by
  rw [bitAt_pinRead, bitAt_undecidedPins, bitAt_padLevels, bitAt_heldLow]
  cases bitAt (outputBits p) t <;> cases bitAt (latchOf s.latch p) t <;>
    cases bitAt (cmosPins s.rom p) t <;> cases bitAt (disabledPins s p) t <;> simp

/-! What an output pin shows. -/

theorem portDrive_cases (s : State) (p : Port) (t : BitVec 2) :
    portDrive s p t =
      if bitAt (latchOf s.latch p) t = false then .low
      else if s.typesSet = false ∨ bitAt (outputTypePu s.rom p) t = false then .released
      else if p = .p2 ∨ p = .p3 ∨ p = .p6 ∨ p = .pc then .high
      else .pulledUp := by
  unfold portDrive
  cases bitAt (latchOf s.latch p) t <;> cases s.typesSet <;> cases bitAt (outputTypePu s.rom p) t <;> cases p <;> rfl

theorem outputDrive_cases (s : State) (p : Port) (t : BitVec 2) :
    outputDrive s p t =
      if bitAt (disabledPins s p) t = true ∨ sharedUse s p t = .highImpedance then .off
      else if sharedUse s p t = .device then .device
      else if bitAt (latchOf s.latch p) t = false then .low
      else if sharedUse s p t = .driven then if s.typesSet then .high else .released
      else if s.typesSet = false ∨ bitAt (outputTypePu s.rom p) t = false then .released
      else if p = .p2 ∨ p = .p3 ∨ p = .p6 ∨ p = .pc then .high
      else .pulledUp := by
  rw [outputDrive]
  cases hu : sharedUse s p t
  case port => simp [portDrive_cases]
  case device => simp
  case driven => simp
  case highImpedance => simp

/-- In the standby modes the outputs are off, in halt mode those of P2 (60_exceptions R343, R344). -/
theorem pinDrive_cases (s : State) (p : Port) (t : BitVec 2) :
    pinDrive s p t =
      if bitAt (outputBits p) t = false then none
      else if s.mode = .hold ∨ s.mode = .halt ∧ p = .p2 then some .off
      else some (outputDrive s p t) := by
  unfold pinDrive
  cases bitAt (outputBits p) t
  · rfl
  · cases s.mode <;> cases p <;> rfl

/-! What an inverter circuit sees and shows, and what a shared pin carries. -/

theorem bitAt_disabledPins (s : State) (p : Port) (t : BitVec 2) :
    bitAt (disabledPins s p) t =
      match p with
      | .p4 => if t.toNat < 2 then portDisabled s .p40p41 else portDisabled s .p42p43
      | .pd => if t.toNat < 2 then portDisabled s .pd0pd1 else portDisabled s .pd2pd3
      | _ => false := by
  have pairs : ∀ (x y : Bool) (t : BitVec 2),
      bitAt ((if x then 3#2 else 0#2) ++ (if y then 3#2 else 0#2)) t = if t.toNat < 2 then y else x := by decide
  cases p
  case p4 | pd => exact pairs _ _ t
  all_goals exact bitAt_zero t

/-- The input pin of a pair of P4: its level, which a latch at 0 holds low unless the port circuit is disabled. -/
theorem inverterPin_p4 (s : State) (k : InverterPair) (t : BitVec 2) :
    inverterPin s k .p4 t = (bitAt s.pins.p4 t && (bitAt s.latch.p4 t || portDisabled s k)) := by
  have full : bitAt 15#4 t = true := by revert t; decide
  rw [inverterPin]
  cases portDisabled s k
  · simp [bitAt_padLevels, bitAt_heldLow, outputBits, full, latchOf, pinLevels]
  · simp [pinLevels]

/-- PD has no latch, so nothing holds its pins low. -/
theorem inverterPin_pd (s : State) (k : InverterPair) (t : BitVec 2) : inverterPin s k .pd t = bitAt s.pins.pd t := by
  rw [inverterPin]
  cases portDisabled s k
  · simp [bitAt_padLevels, bitAt_heldLow, outputBits, bitAt_zero, pinLevels]
  · rfl

theorem sharedUse_unshared (s : State) (p : Port) (t : BitVec 2)
    (h : ¬((p = .p2 ∨ p = .p3) ∧ (t = 1 ∨ t = 2) ∨ p = .p6 ∧ (t = 0 ∨ t = 2))) : sharedUse s p t = .port := by
  cases p
  case p2 | p3 | p6 => rcases bitVec_two_cases t with rfl | rfl | rfl | rfl <;> simp_all [sharedUse]
  all_goals rfl

theorem inverterDrive_cases (s : State) (k : InverterPair) :
    inverterDrive s k =
      if inverterFitted s.rom k = false then none
      else if inverterOn s.inverters k = false ∨ s.mode = .hold then some .off
      else if inverterInput s k = true then some .low
      else some .high := by
  unfold inverterDrive
  cases inverterFitted s.rom k <;> cases inverterOn s.inverters k <;> cases s.mode <;> cases inverterInput s k <;> rfl

/-- Settles O7: clause by clause. -/
theorem portNumbersAndPins : Obligations.PortNumbersAndPins := by
  refine ⟨⟨rfl, rfl, rfl, rfl, rfl, rfl, rfl, rfl, rfl, rfl⟩, by decide, ?pinless, fun s => ⟨rfl, rfl⟩,
    fun rom p t hb => ?types, bitAt_cmosPins, fun rom => ?fitted,
    fun s p t => ⟨bitAt_pinRead_cases s p t, ?drive⟩, fun s => ⟨inverterPin_p4 s .p40p41 0, inverterPin_p4 s .p42p43 2,
      inverterPin_pd s .pd0pd1 0, inverterPin_pd s .pd2pd3 2, rfl, fun k => ⟨rfl, rfl⟩, bitAt_disabledPins s⟩,
    fun s => ⟨rfl, rfl, rfl, rfl, ?melody, rfl, sharedUse_unshared s⟩, inverterDrive_cases⟩
  case pinless =>
    intro p t
    cases p <;> (revert t; decide)
  case types =>
    rw [bitAt_outputTypePu, hb, Bool.true_and]
    rfl
  case fitted =>
    simp only [inverterFitted, Bool.not_eq_true']
    exact ⟨Iff.rfl, Iff.rfl, Iff.rfl, Iff.rfl⟩
  case drive =>
    rw [pinDrive_cases, outputDrive_cases]
    simp only [apply_ite some]
  case melody =>
    simp only [← Bool.and_eq_true]
    rfl

end Sys2Proof.Machine
